-- ==== Sys2Proof/Word.lean ====
section
/-! DEFINITION. The word types of the block (00_scope.md R10, R13; 10_state.md): bytes, 16-bit words, and the 24-bit
values of long operands and bus addresses. -/

namespace Sys2Proof

/-- 8 bits: a byte of memory, DB, PB, an 8-bit operand. -/
abbrev Byte := BitVec 8

/-- 16 bits: A, X, Y, S, D, PC, a VRAM word, a 16-bit operand. -/
abbrev Word := BitVec 16

/-- 24 bits: a bus address `bank:offset`, or a long operand. -/
abbrev Addr := BitVec 24

end Sys2Proof
end

