-- ==== Sys2Proof/Machine/Bits.lean ====
section
/-! DEFINITION. Byte order and bit fields: how bytes make words and addresses and come out of them again. Little-endian is
decided here once (20_memory.md R150). -/

namespace Sys2Proof

/-- Bits 7-0 of a word. -/
def lowByte (w : Word) : Byte := w.setWidth 8

/-- Bits 15-8 of a word. -/
def highByte (w : Word) : Byte := (w >>> 8).setWidth 8

/-- The word `lo | hi << 8` (20_memory.md R150). -/
def wordOf (lo hi : Byte) : Word := BitVec.ofNat 16 (lo.toNat + 256 * hi.toNat)

/-- A byte as a 16-bit value, high byte 0. -/
def zext (v : Byte) : Word := v.setWidth 16

/-- The address `bank:offset` (00_scope.md R12). -/
def addrOf (bank : Byte) (off : Word) : Addr := BitVec.ofNat 24 (65536 * bank.toNat + off.toNat)

/-- Bits 7-0 of an address. -/
def addrLow (a : Addr) : Byte := a.setWidth 8

/-- Bits 15-8 of an address. -/
def addrMid (a : Addr) : Byte := (a >>> 8).setWidth 8

/-- The bank, bits 23-16 of an address. -/
def addrBank (a : Addr) : Byte := (a >>> 16).setWidth 8

/-- The offset, bits 15-0 of an address. -/
def addrOffset (a : Addr) : Word := a.setWidth 16

/-- The 24-bit value of up to three bytes, the first the least significant; missing bytes count as 0 (30_encoding.md R201). -/
def leAddr : List Byte → Addr
  | [] => 0
  | b0 :: [] => BitVec.ofNat 24 b0.toNat
  | b0 :: b1 :: [] => BitVec.ofNat 24 (b0.toNat + 256 * b1.toNat)
  | b0 :: b1 :: b2 :: _ => BitVec.ofNat 24 (b0.toNat + 256 * b1.toNat + 65536 * b2.toNat)

/-- The 16-bit two's-complement value of a relative byte (00_scope.md R12, `sext_8`). -/
def sext8 (r : Byte) : Word := r.signExtend 16

/-- A bit as a number. -/
def bit (b : Bool) : Nat := if b then 1 else 0

end Sys2Proof
end

