-- ==== Sys2Proof/Config.lean ====
section
/-! DEFINITION. What an implementation of the block fixes: the open parameters of 00_scope.md R11 with their defaults, and
the scheduler's constants of 60_exceptions.md R620. The spec leaves no value open after an instruction, so there is no
free value here. -/

namespace Sys2Proof

/-- `HEADER_LAYOUT` and `DMA_LAYOUT` take these two values (00_scope.md R11). -/
inductive Layout where
  | document
  | console
  deriving DecidableEq, Repr

/-- `COLOR_EXPAND` (00_scope.md R11, 60_exceptions.md R585). -/
inductive ColorExpand where
  | replicate
  | times8
  deriving DecidableEq, Repr

/-- The open parameters of 00_scope.md R11, each with the default the spec gives it. They are plain data, so that a claim can
be made for every value of them; `IMPLEMENTED` is the complement of `unimplemented`, and the level input `IRQ_SOURCE` stands
with the scheduler's state (log 4, log 5). -/
structure Params where
  /-- The opcodes for which `IMPLEMENTED` is false (30_encoding.md R208). -/
  unimplemented     : List Byte := []
  headerLayout      : Layout := .document
  dmaLayout         : Layout := .document
  dmaCyclesPerByte  : Nat := 0
  masterPerCpuCycle : Nat := 8
  idleStepCycles    : Nat := 2
  colorExpand       : ColorExpand := .replicate
  deriving DecidableEq, Repr

/-- The bounds 00_scope.md R11 sets: `MASTER_PER_CPU_CYCLE` and `IDLE_STEP_CYCLES` are at least 1. -/
abbrev Params.Ok (p : Params) : Prop := 1 ≤ p.masterPerCpuCycle ∧ 1 ≤ p.idleStepCycles

namespace Config

/-- Master cycles of a scanline (60_exceptions.md R620). -/
def line : Nat := 1364

/-- `VBLANK_START` (60_exceptions.md R620). -/
def vblankStart : Nat := 224 * line

/-- `FRAME` (60_exceptions.md R620). -/
def frame : Nat := 262 * line

end Config

end Sys2Proof
end

