-- ==== Sys2Proof/Machine/Memory.lean ====
section
/-! DEFINITION. Memories as sparse data in one canonical form: (key, value) pairs, keys strictly rising, no value equal to the 0
that an unlisted key reads as. Every memory of the block is zero at reset or zero-filled when created (10_state.md R50, R51, R53,
R60-R62), so 0 is what an unlisted key reads as (log 11). -/

namespace Sys2Proof.Machine

/-- A memory of `w`-bit values. Bytes are held as `Host.Cell` pairs: `Memory` is `Cells 8`. -/
abbrev Cells (w : Nat) := List (Nat × BitVec w)

/-- A byte memory. -/
abbrev Memory := List Host.Cell

/-- The value at a key; an unlisted key reads as 0. -/
def Cells.read {w : Nat} : Cells w → Nat → BitVec w
  | [], _ => 0
  | (k, v) :: m, a => if a = k then v else Cells.read m a

/-- Writing 0 removes the entry, so that equal memories are equal lists. -/
def Cells.write {w : Nat} : Cells w → Nat → BitVec w → Cells w
  | [], a, v => if v = 0 then [] else [(a, v)]
  | (k, u) :: m, a, v =>
    if a < k then (if v = 0 then (k, u) :: m else (a, v) :: (k, u) :: m)
    else if a = k then (if v = 0 then m else (k, v) :: m)
    else (k, u) :: Cells.write m a v

/-- A list of values as a memory, the first at key `k`. -/
def Cells.ofList {w : Nat} (k : Nat) : List (BitVec w) → Cells w
  | [] => []
  | v :: vs => if v = 0 then Cells.ofList (k + 1) vs else (k, v) :: Cells.ofList (k + 1) vs

/-- The canonical form: keys strictly rising, no 0 listed. -/
abbrev Cells.wf {w : Nat} (m : Cells w) : Prop :=
  m.Pairwise (fun p q => p.1 < q.1) ∧ ∀ p ∈ m, p.2 ≠ 0

/-- Every key lies below `n`. -/
abbrev Cells.below {w : Nat} (n : Nat) (m : Cells w) : Prop := ∀ p ∈ m, p.1 < n

/-- The canonical form of a byte memory. -/
abbrev Memory.wf (m : Memory) : Prop := Cells.wf (w := 8) m

end Sys2Proof.Machine
end

