-- ==== Sys2Proof/Machine/State.lean ====
section
/-! DEFINITION. The state of the block as plain data (10_state.md), and the state after reset with no cartridge loaded
(70_reset_and_hazards.md R650, R656). Four parts: the CPU; everything a bus access can touch; the scheduler and what the host
owns; the parameters. -/

namespace Sys2Proof.Machine

/-- P, the processor status (10_state.md R37): its eight bits by name. All eight bits are flags, so nothing is lost; the byte is
`Status.toByte` (Flags.lean). -/
structure Status where
  n : Bool := false
  v : Bool := false
  /-- memory width, 1 = 8-bit -/
  m : Bool := true
  /-- index width, 1 = 8-bit -/
  x : Bool := true
  /-- decimal -/
  d : Bool := false
  /-- IRQ disable -/
  i : Bool := true
  z : Bool := false
  c : Bool := false
  deriving DecidableEq, Repr

/-- The CPU (10_state.md R30-R46); the defaults are the reset values of R90, with PC as it is with no cartridge (R651). -/
structure Cpu where
  a  : Word := 0x0000
  x  : Word := 0x0000
  y  : Word := 0x0000
  /-- stack pointer -/
  s  : Word := 0x01FF
  /-- direct page -/
  d  : Word := 0x0000
  /-- data bank -/
  db : Byte := 0x00
  /-- program bank -/
  pb : Byte := 0x00
  pc : Word := 0x0000
  p  : Status := {}
  /-- emulation mode -/
  e  : Bool := true
  cycles       : Nat := 0
  irqPending   : Bool := false
  nmiPending   : Bool := false
  waiting      : Bool := false
  stopped      : Bool := false
  decodeMisses : Nat := 0
  deriving DecidableEq, Repr

/-- How the cartridge is mapped (10_state.md R52). -/
inductive Mapping where
  | lowMapped
  | highMapped
  deriving DecidableEq, Repr

/-- The loaded cartridge (10_state.md R52). `rom` holds the image bytes and `romSize` their number, rom_size_bytes; has_save_ram
is the accessor `Cartridge.hasSaveRam`, since 20_memory.md R106 defines it by the size (log 15). -/
structure Cartridge where
  rom             : Memory
  romSize         : Nat
  mapping         : Mapping
  saveRamSize     : Nat
  /-- ISO-8859-1 bytes, the padding removed -/
  title           : List Byte
  romType         : Byte
  romSizeCode     : Byte
  checksum        : Word
  complement      : Word
  checksumWarning : Bool
  deriving DecidableEq, Repr

/-- One background layer's registers (10_state.md R63). -/
structure Layer where
  bigTiles : Bool := false
  mapBase  : Word := 0
  mapSize  : BitVec 2 := 0
  charBase : Word := 0
  deriving DecidableEq, Repr

/-- vram_step, in {1, 32, 128} (10_state.md R63). -/
inductive VramStep where
  | by1
  | by32
  | by128
  deriving DecidableEq, Repr

/-- The PPU (10_state.md R60-R63) with its reset values. -/
structure Ppu where
  vram         : Cells 16 := []
  cgram        : Cells 15 := []
  oam          : Memory := []
  forcedBlank  : Bool := false
  brightness   : BitVec 4 := 0
  bgMode       : BitVec 3 := 0
  layer1       : Layer := {}
  layer2       : Layer := {}
  layer3       : Layer := {}
  layer4       : Layer := {}
  mainMask     : Byte := 0
  subMask      : Byte := 0
  vramAddr     : Word := 0
  vramStep     : VramStep := .by1
  vramIncHigh  : Bool := false
  vramLatch    : Word := 0
  cgIndex      : Byte := 0
  /-- false: the next access is the low byte -/
  cgPhase      : Bool := false
  cgLow        : Byte := 0
  deriving DecidableEq, Repr

/-- Everything a bus access can touch (10_state.md R50-R72). `regs` is keyed by offset - 0x2000. -/
structure Bus where
  wram               : Memory := []
  sram               : Memory := []
  cart               : Option Cartridge := none
  regs               : Memory := []
  mappingWarnings    : Nat := 0
  sramBoundsWarnings : Nat := 0
  inVblank           : Bool := false
  nmiFlag            : Bool := false
  ppu                : Ppu := {}
  apuPort0           : Byte := 0
  apuPort1           : Byte := 0
  apuPort2           : Byte := 0
  apuPort3           : Byte := 0
  /-- Bytes moved by DMA in the current step: the model's own bookkeeping for 20_memory.md R144 (log 12). -/
  dmaBytes           : Nat := 0
  deriving DecidableEq, Repr

/-- The scheduler's state and what the host owns (10_state.md R80, R81). -/
structure Sched where
  master     : Nat := 0
  frameCount : Nat := 0
  running    : Bool := false
  /-- one bit a button, in the order of R81: bit 0 is Up, bit 11 is Select (log 18) -/
  buttons    : BitVec 12 := 0
  /-- the callback set by set_frame_sink, as a number the host chose (log 18) -/
  frameSink  : Option Nat := none
  /-- IRQ_SOURCE: its levels before the coming batches, the next one first; not asserted after the last (log 5) -/
  irqSource  : List Bool := []
  deriving DecidableEq, Repr

/-- The whole state. -/
structure State where
  cpu    : Cpu := {}
  bus    : Bus := {}
  sched  : Sched := {}
  params : Params := {}
  deriving DecidableEq, Repr

/-- Why a machine of this kind stops with a fault: never. 60_exceptions.md R560: "No error is fatal at runtime" (log 17). -/
inductive Fault where
  deriving DecidableEq, Repr

/-- Why an instruction has no meaning. -/
inductive Refusal where
  /-- Raised by `exec` alone, for an instruction that is not modelled yet. Safe: the run stops there. No arm raises it. -/
  | notModelled (mnemonic : String)
  deriving DecidableEq, Repr

/-- What executing an instruction gives. -/
abbrev Result := Host.Outcome State Fault Refusal

/-- The machine right after reset, with no cartridge loaded: "the state before the first `load_cartridge` is the reset state
with no cartridge" (70_reset_and_hazards.md R656), so PC = 0x0000 (R651) and every other field is as 10_state.md R90 says. What
reset keeps (`running`, `frame_sink`, IRQ_SOURCE, the parameters) is as log 3, 4 and 5 say. -/
def State.reset : State := {}

end Sys2Proof.Machine
end

