-- ==== Sys2Proof/Machine/Ppu.lean ====
section
/-! DEFINITION. The PPU's registers (20_memory.md R122-R135) and its pixel generator (60_exceptions.md R580-R587). -/

namespace Sys2Proof.Machine

/-! ### Registers -/

/-- The step in words (10_state.md R63). -/
def VramStep.words : VramStep → Word
  | .by1 => 1
  | .by32 => 32
  | .by128 => 128

/-- `[1, 32, 128, 128][v[1:0]]` (20_memory.md R126). -/
def VramStep.ofBits (v : Byte) : VramStep :=
  if v.toNat % 4 = 0 then .by1 else if v.toNat % 4 = 1 then .by32 else .by128

/-- Layer n's registers, n = 1..4. -/
def Ppu.layer (p : Ppu) (n : Nat) : Layer :=
  if n = 1 then p.layer1 else if n = 2 then p.layer2 else if n = 3 then p.layer3 else p.layer4

/-- The VRAM word an address register value selects (20_memory.md R128). -/
def Ppu.vramAt (p : Ppu) (addr : Word) : Word := Cells.read p.vram (addr.toNat % 0x8000)

/-- `vram_addr <- (vram_addr + vram_step) mod 2^16`. -/
def Ppu.advance (p : Ppu) : Ppu := { p with vramAddr := p.vramAddr + p.vramStep.words }

/-- `vram_latch <- vram[vram_addr & 0x7FFF]`. -/
def Ppu.reload (p : Ppu) : Ppu := { p with vramLatch := p.vramAt p.vramAddr }

/-- 0x2100 (20_memory.md R122). -/
def Ppu.writeDisplay (v : Byte) (p : Ppu) : Ppu :=
  { p with forcedBlank := v.getLsbD 7, brightness := v.setWidth 4 }

/-- 0x2105 (20_memory.md R123). -/
def Ppu.writeBgMode (v : Byte) (p : Ppu) : Ppu :=
  { p with
    bgMode := v.setWidth 3
    layer1 := { p.layer1 with bigTiles := v.getLsbD 4 }
    layer2 := { p.layer2 with bigTiles := v.getLsbD 5 }
    layer3 := { p.layer3 with bigTiles := v.getLsbD 6 }
    layer4 := { p.layer4 with bigTiles := v.getLsbD 7 } }

/-- A layer's map register, 0x2107-0x210A (20_memory.md R124). -/
def Layer.setMap (v : Byte) (l : Layer) : Layer :=
  { l with mapBase := BitVec.ofNat 16 (v.toNat / 4 * 0x400), mapSize := v.setWidth 2 }

/-- A layer's character base from a nibble (20_memory.md R125). -/
def Layer.setChar (nibble : Nat) (l : Layer) : Layer :=
  { l with charBase := BitVec.ofNat 16 (nibble * 0x1000) }

/-- 0x2115 (20_memory.md R126). -/
def Ppu.writeVramMode (v : Byte) (p : Ppu) : Ppu :=
  { p with vramStep := VramStep.ofBits v, vramIncHigh := v.getLsbD 7 }

/-- 0x2116 (20_memory.md R127). -/
def Ppu.writeVramAddrLow (v : Byte) (p : Ppu) : Ppu :=
  ({ p with vramAddr := wordOf v (highByte p.vramAddr) }).reload

/-- 0x2117 (20_memory.md R127). -/
def Ppu.writeVramAddrHigh (v : Byte) (p : Ppu) : Ppu :=
  ({ p with vramAddr := wordOf (lowByte p.vramAddr) v }).reload

/-- Store a word at the VRAM address (20_memory.md R128). -/
def Ppu.storeVram (v : Word) (p : Ppu) : Ppu :=
  { p with vram := Cells.write p.vram (p.vramAddr.toNat % 0x8000) v }

/-- 0x2118 (20_memory.md R128). -/
def Ppu.writeVramLow (v : Byte) (p : Ppu) : Ppu :=
  let q := p.storeVram (wordOf v (highByte (p.vramAt p.vramAddr)))
  if p.vramIncHigh then q else q.advance

/-- 0x2119 (20_memory.md R128). -/
def Ppu.writeVramHigh (v : Byte) (p : Ppu) : Ppu :=
  let q := p.storeVram (wordOf (lowByte (p.vramAt p.vramAddr)) v)
  if p.vramIncHigh then q.advance else q

/-- 0x2121 (20_memory.md R129). -/
def Ppu.writeCgIndex (v : Byte) (p : Ppu) : Ppu := { p with cgIndex := v, cgPhase := false }

/-- 0x2122: the first write latches the low byte, the second commits 15 bits and advances the index (20_memory.md R130). -/
def Ppu.writeCgData (v : Byte) (p : Ppu) : Ppu :=
  if p.cgPhase then
    { p with
      cgram := Cells.write p.cgram p.cgIndex.toNat ((wordOf p.cgLow v).setWidth 15)
      cgIndex := p.cgIndex + 1
      cgPhase := false }
  else { p with cgLow := v, cgPhase := true }

/-- The side effect of a register write on the PPU (20_memory.md R120); every other offset has none. -/
def Ppu.writePort (off : Nat) (v : Byte) (p : Ppu) : Ppu :=
  if off = 0x2100 then p.writeDisplay v
  else if off = 0x2105 then p.writeBgMode v
  else if off = 0x2107 then { p with layer1 := p.layer1.setMap v }
  else if off = 0x2108 then { p with layer2 := p.layer2.setMap v }
  else if off = 0x2109 then { p with layer3 := p.layer3.setMap v }
  else if off = 0x210A then { p with layer4 := p.layer4.setMap v }
  else if off = 0x210B then
    { p with layer1 := p.layer1.setChar (v.toNat % 16), layer2 := p.layer2.setChar (v.toNat / 16) }
  else if off = 0x210C then
    { p with layer3 := p.layer3.setChar (v.toNat % 16), layer4 := p.layer4.setChar (v.toNat / 16) }
  else if off = 0x2115 then p.writeVramMode v
  else if off = 0x2116 then p.writeVramAddrLow v
  else if off = 0x2117 then p.writeVramAddrHigh v
  else if off = 0x2118 then p.writeVramLow v
  else if off = 0x2119 then p.writeVramHigh v
  else if off = 0x2121 then p.writeCgIndex v
  else if off = 0x2122 then p.writeCgData v
  else if off = 0x212C then { p with mainMask := v }
  else if off = 0x212D then { p with subMask := v }
  else p

/-- 0x2139 (20_memory.md R132). -/
def Ppu.readVramLow (p : Ppu) : Byte × Ppu :=
  (lowByte p.vramLatch, if p.vramIncHigh then p else p.advance.reload)

/-- 0x213A (20_memory.md R132). -/
def Ppu.readVramHigh (p : Ppu) : Byte × Ppu :=
  (highByte p.vramLatch, if p.vramIncHigh then p.advance.reload else p)

/-- 0x213B (20_memory.md R133). -/
def Ppu.readCgData (p : Ppu) : Byte × Ppu :=
  let c := (Cells.read p.cgram p.cgIndex.toNat).setWidth 16
  if p.cgPhase then (highByte c, { p with cgPhase := false, cgIndex := p.cgIndex + 1 })
  else (lowByte c, { p with cgPhase := true })

/-! ### Pixel generator -/

/-- One pixel, in the order of its bytes (60_exceptions.md R580). -/
structure Rgba where
  r : Byte
  g : Byte
  b : Byte
  a : Byte
  deriving DecidableEq, Repr

/-- The black backdrop (60_exceptions.md R581). -/
def Rgba.black : Rgba := ⟨0, 0, 0, 255⟩

/-- `bpp(bg_mode, n)`; modes 0 and 1 only, 0 where there is no such layer (60_exceptions.md R582). -/
def bitsPerPixel (mode n : Nat) : Nat :=
  if mode = 0 then 2 else if n = 1 then 4 else if n = 2 then 4 else if n = 3 then 2 else 0

/-- `colors_per_group(b)` (60_exceptions.md R582). -/
def colorsPerGroup (b : Nat) : Nat := if b = 2 then 4 else 16

/-- `Expand(x)` (60_exceptions.md R585). -/
def expandColor (e : ColorExpand) (x : Nat) : Nat :=
  match e with
  | .replicate => x * 8 + x / 4
  | .times8 => x * 8

/-- One channel of `Color(c)`: expand, then scale by brightness / 15 (60_exceptions.md R585). -/
def channel (e : ColorExpand) (brightness : BitVec 4) (x : Nat) : Byte :=
  BitVec.ofNat 8 (expandColor e x * brightness.toNat / 15)

/-- `Color(c)` of a palette entry `0bbbbbgggggrrrrr` (60_exceptions.md R585). -/
def colorOf (e : ColorExpand) (brightness : BitVec 4) (c : BitVec 15) : Rgba where
  r := channel e brightness (c.toNat % 32)
  g := channel e brightness (c.toNat / 32 % 32)
  b := channel e brightness (c.toNat / 1024)
  a := 255

/-- `vram[i & 0x7FFF]`. -/
def Ppu.vramWord (p : Ppu) (i : Nat) : Word := Cells.read p.vram (i % 0x8000)

/-- The colour index at (`row`, `col`) of the tile a tilemap entry names, `b` bits per pixel (60_exceptions.md R583). -/
def Ppu.tileIndex (p : Ppu) (charBase : Nat) (e : Word) (b row col : Nat) : Nat :=
  let base := charBase + e.toNat % 1024 * 4 * b
  let sr := if e.getLsbD 15 then 7 - row else row
  let w0 := p.vramWord (base + sr)
  let w1 := if b = 4 then p.vramWord (base + 8 + sr) else 0
  let k := if e.getLsbD 14 then col else 7 - col
  bit (w0.getLsbD k) + 2 * bit (w0.getLsbD (8 + k)) + 4 * bit (w1.getLsbD k) + 8 * bit (w1.getLsbD (8 + k))

/-- What `DrawLayer(n, b)` writes at tile (`ty`, `tx`), row `row`, column `col`: nothing where the colour index is 0
(60_exceptions.md R583). -/
def Ppu.layerPixel (e : ColorExpand) (p : Ppu) (n b ty tx row col : Nat) : Option Rgba :=
  let entry := p.vramWord ((p.layer n).mapBase.toNat + 32 * ty + tx)
  let idx := p.tileIndex (p.layer n).charBase.toNat entry b row col
  if idx = 0 then none
  else some (colorOf e p.brightness
    (Cells.read p.cgram ((entry.toNat / 1024 % 8 * colorsPerGroup b + idx) % 256)))

/-- The layers `render_frame` draws, in the order it draws them: none when the picture is black (60_exceptions.md R581). -/
def Ppu.drawnLayers (p : Ppu) : List Nat :=
  if p.forcedBlank || decide (p.mainMask.toNat % 16 = 0) || decide (2 ≤ p.bgMode.toNat) then []
  else [4, 3, 2, 1].filter fun n =>
    p.mainMask.getLsbD (n - 1) && decide (bitsPerPixel p.bgMode.toNat n ≠ 0)

/-- Pixel (`y`, `x`) of the picture: the last layer drawn there, else the backdrop. Each layer draws a pixel once, at tile
(y / 8, x / 8), row y % 8, column x % 8 (log 14). -/
def Ppu.pixel (e : ColorExpand) (p : Ppu) (y x : Nat) : Rgba :=
  p.drawnLayers.foldl (fun px n =>
    (p.layerPixel e n (bitsPerPixel p.bgMode.toNat n) (y / 8) (x / 8) (y % 8) (x % 8)).getD px) .black

/-- One write of the drawing procedure: the pixel's row and column and its colour. -/
structure Draw where
  y  : Nat
  x  : Nat
  px : Rgba
  deriving DecidableEq, Repr

/-- The writes of `DrawLayer(n, b)` in program order (60_exceptions.md R583). -/
def Ppu.drawLayer (e : ColorExpand) (p : Ppu) (n b : Nat) : List Draw :=
  (List.range 28).flatMap fun ty => (List.range 32).flatMap fun tx =>
    (List.range 8).flatMap fun row => (List.range 8).filterMap fun col =>
      (p.layerPixel e n b ty tx row col).map fun c => ⟨8 * ty + row, 8 * tx + col, c⟩

/-- The writes of `render_frame` in program order, after the fill with black (60_exceptions.md R581). -/
def Ppu.drawFrame (e : ColorExpand) (p : Ppu) : List Draw :=
  p.drawnLayers.flatMap fun n => p.drawLayer e n (bitsPerPixel p.bgMode.toNat n)

/-- A pixel after a list of writes: the last write to it stands. -/
def drawnPixel (y x : Nat) (draws : List Draw) : Rgba :=
  draws.foldl (fun px d => if d.y = y ∧ d.x = x then d.px else px) .black

/-- `render_frame()`: 224 rows of 256 pixels, each R, G, B, A (60_exceptions.md R580). -/
def Ppu.renderFrame (e : ColorExpand) (p : Ppu) : List Byte :=
  (List.range 224).flatMap fun y => (List.range 256).flatMap fun x =>
    let c := p.pixel e y x
    [c.r, c.g, c.b, c.a]

end Sys2Proof.Machine
end

