-- ==== Sys2Proof/Machine/Bus.lean ====
section
/-! DEFINITION. The bus: address decode (20_memory.md R110, R111), one byte read or write with every side effect of its target
(R101), the register file (R120-R139), and the DMA engine, which runs inside the write that starts it (R140-R144). -/

namespace Sys2Proof.Machine

/-! ### Address decode -/

/-- What an address decodes to (20_memory.md R101). -/
inductive Target where
  | wram (i : Nat)
  | sram (i : Nat)
  | rom (o : Nat)
  | reg (off : Nat)
  | unmapped
  deriving DecidableEq, Repr

/-- Banks 0x00-0x3F and 0x80-0xBF. -/
abbrev SystemBank (bank : Nat) : Prop := bank < 0x40 ∨ (0x80 ≤ bank ∧ bank < 0xC0)

/-- The low-mapped decode, first matching line wins (20_memory.md R110). -/
def decodeLow (bank off : Nat) : Target :=
  if bank = 0x7E ∨ bank = 0x7F then .wram (bank % 2 * 0x10000 + off)
  else if SystemBank bank ∧ off < 0x2000 then .wram off
  else if SystemBank bank ∧ off ≤ 0x5FFF then .reg off
  else if SystemBank bank ∧ off ≤ 0x7FFF then .unmapped
  else if 0x70 ≤ bank ∧ bank ≤ 0x7D ∧ off < 0x8000 then .sram ((bank - 0x70) * 0x8000 + off)
  else .rom (bank % 0x80 * 0x8000 + off % 0x8000)

/-- The high-mapped decode, first matching line wins (20_memory.md R111). -/
def decodeHigh (hasSaveRam : Bool) (bank off : Nat) : Target :=
  if bank = 0x7E ∨ bank = 0x7F then .wram (bank % 2 * 0x10000 + off)
  else if (0x40 ≤ bank ∧ bank ≤ 0x7D) ∨ 0xC0 ≤ bank then .rom (bank % 0x40 * 0x10000 + off)
  else if off < 0x2000 then .wram off
  else if off ≤ 0x5FFF then .reg off
  else if 0x20 ≤ bank ∧ bank ≤ 0x3F ∧ off ≤ 0x7FFF ∧ hasSaveRam then
    .sram ((bank - 0x20) * 0x2000 + (off - 0x6000))
  else if off ≤ 0x7FFF then .unmapped
  else .rom (bank % 0x40 * 0x10000 + off)

/-- `has_save_ram = (save_ram_size_bytes > 0)` (20_memory.md R106). -/
def Cartridge.hasSaveRam (c : Cartridge) : Bool := decide (0 < c.saveRamSize)

/-- Save-RAM bytes there are: none before the first load (20_memory.md R101, D79). -/
def Bus.saveRamSize (b : Bus) : Nat := (b.cart.map (·.saveRamSize)).getD 0

/-- The target of an address; the mapping is LowMapped before the first load (20_memory.md R101). -/
def Bus.target (b : Bus) (a : Addr) : Target :=
  let bank := (addrBank a).toNat
  let off := (addrOffset a).toNat
  match b.cart with
  | none => decodeLow bank off
  | some c =>
    match c.mapping with
    | .lowMapped => decodeLow bank off
    | .highMapped => decodeHigh c.hasSaveRam bank off

/-- `rom[o mod rom_size_bytes]`; 0x00 with no cartridge (20_memory.md R101, R113). -/
def Bus.romByte (b : Bus) (o : Nat) : Byte :=
  match b.cart with
  | none => 0
  | some c => Cells.read c.rom (o % c.romSize)

/-! ### Registers -/

/-- The flat-array byte of a register offset (10_state.md R53). -/
def Bus.regAt (b : Bus) (off : Nat) : Byte := Cells.read b.regs (off - 0x2000)

/-- Store in the flat array (10_state.md R53). -/
def Bus.setReg (off : Nat) (v : Byte) (b : Bus) : Bus := { b with regs := Cells.write b.regs (off - 0x2000) v }

/-- A register write without the start of DMA: the flat array first, then the side effect of the offset (20_memory.md R120-R135).
These are all the registers a DMA transfer can reach, 0x2100-0x21FF. -/
def Bus.writePort (off : Nat) (v : Byte) (b : Bus) : Bus :=
  let b := b.setReg off v
  if off = 0x2140 then { b with apuPort0 := v }
  else if off = 0x2141 then { b with apuPort1 := v }
  else if off = 0x2142 then { b with apuPort2 := v }
  else if off = 0x2143 then { b with apuPort3 := v }
  else { b with ppu := b.ppu.writePort off v }

/-- The controller registers, a stub (20_memory.md R139). -/
abbrev ControllerReg (off : Nat) : Prop := off = 0x4016 ∨ off = 0x4017 ∨ (0x4218 ≤ off ∧ off ≤ 0x421F)

/-- A register read (20_memory.md R131): the registers with a read rule (R132-R134, R137-R139), else the flat array. -/
def Bus.readReg (off : Nat) (b : Bus) : Byte × Bus :=
  if off = 0x2139 then (b.ppu.readVramLow.1, { b with ppu := b.ppu.readVramLow.2 })
  else if off = 0x213A then (b.ppu.readVramHigh.1, { b with ppu := b.ppu.readVramHigh.2 })
  else if off = 0x213B then (b.ppu.readCgData.1, { b with ppu := b.ppu.readCgData.2 })
  else if off = 0x2140 then (b.apuPort0, b)
  else if off = 0x2141 then (b.apuPort1, b)
  else if off = 0x2142 then (b.apuPort2, b)
  else if off = 0x2143 then (b.apuPort3, b)
  else if off = 0x4210 then (if b.nmiFlag then 0x80 else 0, { b with nmiFlag := false })
  else if off = 0x4212 then (if b.inVblank then 0x80 else 0, b)
  else if ControllerReg off then (0, b)
  else (b.regAt off, b)

/-! ### Memory targets -/

/-- Count a MappingWarning. -/
def Bus.warnMapping (b : Bus) : Bus := { b with mappingWarnings := b.mappingWarnings + 1 }

/-- Count an SRAMBoundsWarning. -/
def Bus.warnSram (b : Bus) : Bus := { b with sramBoundsWarnings := b.sramBoundsWarnings + 1 }

/-- Read a target; registers by `onReg` (20_memory.md R101). -/
def Bus.readTarget (onReg : Nat → Bus → Byte × Bus) (t : Target) (b : Bus) : Byte × Bus :=
  match t with
  | .wram i => (Cells.read b.wram i, b)
  | .sram i => if i < b.saveRamSize then (Cells.read b.sram i, b) else (0, b.warnSram)
  | .rom o => (b.romByte o, b)
  | .reg off => onReg off b
  | .unmapped => (0, b.warnMapping)

/-- Write a target; registers by `onReg` (20_memory.md R101). -/
def Bus.writeTarget (onReg : Nat → Byte → Bus → Bus) (t : Target) (v : Byte) (b : Bus) : Bus :=
  match t with
  | .wram i => { b with wram := Cells.write b.wram i v }
  | .sram i => if i < b.saveRamSize then { b with sram := Cells.write b.sram i v } else b.warnSram
  | .rom _ => b
  | .reg off => onReg off v b
  | .unmapped => b.warnMapping

/-! ### DMA -/

/-- `ABusRead(a)`: a register on the A-bus reads 0x00 with no effect (20_memory.md R142). -/
def Bus.abusRead (a : Addr) (b : Bus) : Byte × Bus := b.readTarget (fun _ b => (0, b)) (b.target a)

/-- `ABusWrite(a, v)`: a register on the A-bus is not written (20_memory.md R142). -/
def Bus.abusWrite (a : Addr) (v : Byte) (b : Bus) : Bus := b.writeTarget (fun _ _ b => b) (b.target a) v

/-- A DMA channel's fields (20_memory.md R141). -/
structure Channel where
  /-- control bit 7: true is B to A -/
  toA   : Bool
  fixed : Bool
  mode  : Nat
  breg  : Byte
  aOff  : Word
  aBank : Byte
  size  : Word
  deriving DecidableEq, Repr

/-- Where a channel's fields stand from its base: the B register, the A offset's low byte, the bank, the size's low byte
(20_memory.md R141). -/
structure ChannelOffsets where
  breg : Nat
  aOff : Nat
  bank : Nat
  size : Nat

/-- `DMA_LAYOUT` (20_memory.md R141). -/
def channelOffsets : Layout → ChannelOffsets
  | .document => ⟨2, 3, 5, 8⟩
  | .console => ⟨1, 2, 4, 5⟩

/-- `0x4300 + 0x10*ch`. -/
def channelBase (ch : Nat) : Nat := 0x4300 + 0x10 * ch

/-- The fields of a channel as the flat array holds them (20_memory.md R141). -/
def Bus.dmaChannel (lay : Layout) (ch : Nat) (b : Bus) : Channel :=
  let c := channelBase ch
  let o := channelOffsets lay
  let ctrl := b.regAt c
  { toA := ctrl.getLsbD 7
    fixed := ctrl.getLsbD 3
    mode := ctrl.toNat % 8
    breg := b.regAt (c + o.breg)
    aOff := wordOf (b.regAt (c + o.aOff)) (b.regAt (c + o.aOff + 1))
    aBank := b.regAt (c + o.bank)
    size := wordOf (b.regAt (c + o.size)) (b.regAt (c + o.size + 1)) }

/-- `n = 65536 if size = 0 else size` (20_memory.md R141). -/
def Channel.count (c : Channel) : Nat := if c.size = 0 then 65536 else c.size.toNat

/-- `PATTERN[mode]` (20_memory.md R143). -/
def dmaPattern (mode : Nat) : List Nat :=
  if mode = 0 then [0] else if mode = 1 then [0, 1] else if mode = 2 then [0, 0]
  else if mode = 3 then [0, 0, 1, 1] else if mode = 4 then [0, 1, 2, 3] else if mode = 5 then [0, 1, 0, 1]
  else if mode = 6 then [0, 0] else [0, 0, 1, 1]

/-- The B-bus register of byte `i` of a transfer: `0x2100 + ((breg + pat[i mod length]) & 0xFF)` (20_memory.md R142). -/
def Channel.bReg (c : Channel) (i : Nat) : Nat :=
  let pat := dmaPattern c.mode
  0x2100 + (c.breg.toNat + pat.getD (i % pat.length) 0) % 256

/-- Move byte `i` of a transfer, with the A offset `aOff` (20_memory.md R142). -/
def Bus.dmaByte (c : Channel) (i : Nat) (aOff : Word) (b : Bus) : Bus :=
  let a := addrOf c.aBank aOff
  if c.toA then
    let r := b.readReg (c.bReg i)
    r.2.abusWrite a r.1
  else
    let r := b.abusRead a
    r.2.writePort (c.bReg i) r.1

/-- `n` more bytes from byte `i` on; the A offset advances unless it is fixed (20_memory.md R142). -/
def Bus.dmaLoop (c : Channel) : Nat → Nat → Word → Bus → Word × Bus
  | 0, _, aOff, b => (aOff, b)
  | n + 1, i, aOff, b =>
    Bus.dmaLoop c n (i + 1) (if c.fixed then aOff else aOff + 1) (b.dmaByte c i aOff)

/-- One channel's transfer: the bytes, then the channel's registers (20_memory.md R142). -/
def Bus.dmaTransfer (lay : Layout) (ch : Nat) (b : Bus) : Bus :=
  let c := b.dmaChannel lay ch
  let base := channelBase ch
  let o := channelOffsets lay
  let r := Bus.dmaLoop c c.count 0 c.aOff b
  let b := r.2
  let b := (b.setReg (base + o.aOff) (lowByte r.1)).setReg (base + o.aOff + 1) (highByte r.1)
  let b := (b.setReg (base + o.size) 0).setReg (base + o.size + 1) 0
  { b with dmaBytes := b.dmaBytes + c.count }

/-- A channel's share of a write of `v` to 0x420B: if its bit is set, transfer and clear the bit (20_memory.md R140). -/
def Bus.dmaChannelStart (lay : Layout) (v : Byte) (b : Bus) (ch : Nat) : Bus :=
  if v.getLsbD ch then
    let b := b.dmaTransfer lay ch
    b.setReg 0x420B (b.regAt 0x420B &&& ~~~(BitVec.ofNat 8 (2 ^ ch)))
  else b

/-- The write of 0x420B: channels 0 to 7 in order (20_memory.md R140). -/
def Bus.dmaStart (lay : Layout) (v : Byte) (b : Bus) : Bus :=
  (List.range 8).foldl (Bus.dmaChannelStart lay v) b

/-- A register write (20_memory.md R121). -/
def Bus.writeReg (lay : Layout) (off : Nat) (v : Byte) (b : Bus) : Bus :=
  if off = 0x420B then (b.writePort off v).dmaStart lay v else b.writePort off v

/-! ### Bus access -/

/-- `Rd8(a)` (20_memory.md R101). -/
def Bus.rd8 (a : Addr) (b : Bus) : Byte × Bus := b.readTarget Bus.readReg (b.target a)

/-- `Wr8(a, v)` (20_memory.md R101). -/
def Bus.wr8 (lay : Layout) (a : Addr) (v : Byte) (b : Bus) : Bus := b.writeTarget (Bus.writeReg lay) (b.target a) v

end Sys2Proof.Machine
end

