-- ==== Sys2Proof/Machine/Flags.lean ====
section
/-! DEFINITION. Widths, the status byte, and every flag and result computation of the arithmetic, logic and shift rules
(00_scope.md R12, R13; 10_state.md R37; 42_arithmetic_compare.md R330, R331; 43_logical_bit_shift.md R377). Data of either width is
held as a 16-bit value; at width 8 its high byte is 0. -/

namespace Sys2Proof.Machine

/-- A data width (00_scope.md R13). -/
inductive Width where
  | w8
  | w16
  deriving DecidableEq, Repr

/-- The width a flag selects: 1 is 8-bit. -/
def widthOf (eight : Bool) : Width := if eight then .w8 else .w16

/-- Bits of a width. -/
def Width.bits : Width → Nat
  | .w8 => 8
  | .w16 => 16

/-- `v & mask(w)`. -/
def Width.trunc : Width → Word → Word
  | .w8, v => zext (lowByte v)
  | .w16, v => v

/-- `mask(w)` as a number. -/
def Width.mask : Width → Nat
  | .w8 => 0xFF
  | .w16 => 0xFFFF

/-- `msb_w(v)`. -/
def Width.msb : Width → Word → Bool
  | .w8, v => v.getLsbD 7
  | .w16, v => v.getLsbD 15

/-- Bit w-2, which BIT copies to V (43_logical_bit_shift.md R373). -/
def Width.bitBelowMsb : Width → Word → Bool
  | .w8, v => v.getLsbD 6
  | .w16, v => v.getLsbD 14

/-- `~_w v`. -/
def Width.compl (w : Width) (v : Word) : Word := w.trunc (~~~v)

/-- P as a byte: `N<<7 | V<<6 | M<<5 | X<<4 | D<<3 | I<<2 | Z<<1 | C` (10_state.md R37). -/
def Status.toByte (p : Status) : Byte :=
  BitVec.ofNat 8 (bit p.n * 128 + bit p.v * 64 + bit p.m * 32 + bit p.x * 16
    + bit p.d * 8 + bit p.i * 4 + bit p.z * 2 + bit p.c)

/-- The flags of a status byte (10_state.md R37). -/
def Status.ofByte (b : Byte) : Status where
  n := b.getLsbD 7
  v := b.getLsbD 6
  m := b.getLsbD 5
  x := b.getLsbD 4
  d := b.getLsbD 3
  i := b.getLsbD 2
  z := b.getLsbD 1
  c := b.getLsbD 0

/-- `SetNZ_w(v)` on the flags: N is the top bit at the width, Z says v = 0 (00_scope.md R15). -/
def Status.setNZ (w : Width) (v : Word) (p : Status) : Status := { p with n := w.msb v, z := v == 0 }

/-- A result with its carry and overflow. -/
structure AluOut where
  r : Word
  c : Bool
  v : Bool
  deriving DecidableEq, Repr

/-- `msb_w(~(a ^ b) & (a ^ r))`: the operands' signs agree and the result's differs (42_arithmetic_compare.md R330). -/
def overflow (w : Width) (a b r : Word) : Bool := w.msb (~~~(a ^^^ b) &&& (a ^^^ r))

/-- `AddBin(a, b, c, w)` (42_arithmetic_compare.md R330). -/
def addBin (a b : Word) (c : Bool) (w : Width) : AluOut :=
  let r := a.toNat + b.toNat + bit c
  { r := w.trunc (BitVec.ofNat 16 r), c := decide (w.mask < r), v := overflow w a b (BitVec.ofNat 16 r) }

/-- What the digit loop of `AddDec` carries from one digit to the next. -/
structure DecAcc where
  r : Int
  c : Bool
  v : Bool
  deriving DecidableEq, Repr

/-- One digit of `AddDec`, of weight `k`; `b` is complemented already when `sub` is set (42_arithmetic_compare.md R331). `v` is
taken before the adjust, for every digit; the last one's stands. -/
def decDigit (sub : Bool) (a b : Word) (w : Width) (acc : DecAcc) (k : Nat) : DecAcc :=
  let t : Int := ((a.toNat &&& (0xF * k)) + (b.toNat &&& (0xF * k)) + bit acc.c * k : Nat) + acc.r % (k : Int)
  let t1 : Int := if !sub && decide (t > 10 * k - 1) then t + 6 * k else t
  let t2 : Int := if sub && decide (t1 ≤ 16 * k - 1) then t1 - 6 * k else t1
  { r := t2, c := decide (t2 > 16 * k - 1), v := overflow w a b (BitVec.ofInt 16 t) }

/-- The digit weights of a width, the lowest first (42_arithmetic_compare.md R331). -/
def Width.digitWeights : Width → List Nat
  | .w8 => [0x1, 0x10]
  | .w16 => [0x1, 0x10, 0x100, 0x1000]

/-- `AddDec(a, b, c, w, sub)` (42_arithmetic_compare.md R331). -/
def addDec (a b : Word) (c : Bool) (w : Width) (sub : Bool) : AluOut :=
  let b := if sub then w.compl b else b
  let acc := w.digitWeights.foldl (decDigit sub a b w) { r := 0, c := c, v := false }
  { r := w.trunc (BitVec.ofInt 16 acc.r), c := acc.c, v := acc.v }

/-- The sum of ADC (42_arithmetic_compare.md R332). -/
def adcOut (decimal : Bool) (a b : Word) (c : Bool) (w : Width) : AluOut :=
  if decimal then addDec a b c w false else addBin a b c w

/-- The difference of SBC (42_arithmetic_compare.md R333). -/
def sbcOut (decimal : Bool) (a b : Word) (c : Bool) (w : Width) : AluOut :=
  if decimal then addDec a b c w true else addBin a (w.compl b) c w

/-- C, N and Z of a compare of a with b (42_arithmetic_compare.md R334). -/
def Status.compare (w : Width) (a b : Word) (p : Status) : Status :=
  { p.setNZ w (w.trunc (a - b)) with c := decide (b.toNat ≤ a.toNat) }

/-- The four shifts (43_logical_bit_shift.md R377). -/
inductive Shift where
  | asl
  | lsr
  | rol
  | ror
  deriving DecidableEq, Repr

/-- The carry as the bit of weight 1 or of weight 2^(w-1). -/
def carryBit (c : Bool) (at_ : Nat) : Word := if c then BitVec.ofNat 16 (2 ^ at_) else 0

/-- `ShiftOp(op, v, c, w)`: the result and the new carry (43_logical_bit_shift.md R377). -/
def Shift.apply (op : Shift) (v : Word) (c : Bool) (w : Width) : Word × Bool :=
  match op with
  | .asl => (w.trunc (v <<< 1), w.msb v)
  | .lsr => (v >>> 1, v.getLsbD 0)
  | .rol => (w.trunc ((v <<< 1) ||| carryBit c 0), w.msb v)
  | .ror => ((v >>> 1) ||| carryBit c (w.bits - 1), v.getLsbD 0)

end Sys2Proof.Machine
end

