-- ==== Sys2Proof/Machine/Ops.lean ====
section
/-! DEFINITION. The named operations the instructions are made of: register writes by width (40_addressing_load_store.md R269),
EnforceModes (10_state.md R40), bus access and the multi-byte primitives (00_scope.md R14), fetch (R15), the stack
(45_stack.md R450), and the one operation that takes an interrupt (60_exceptions.md R556), with the return beside it
(46_flags_mode_system.md R507). -/

namespace Sys2Proof.Machine

/-! ### Registers -/

/-- `wM` (00_scope.md R13). -/
def wM (s : State) : Width := widthOf s.cpu.p.m

/-- `wX` (00_scope.md R13). -/
def wX (s : State) : Width := widthOf s.cpu.p.x

/-- `SetA(v, w)`: with w = 8 the high byte is preserved (40_addressing_load_store.md R269). -/
def setA (w : Width) (v : Word) (s : State) : State :=
  { s with cpu := { s.cpu with a := match w with
      | .w8 => wordOf (lowByte v) (highByte s.cpu.a)
      | .w16 => v } }

/-- `SetX(v, w)` (40_addressing_load_store.md R269). -/
def setX (w : Width) (v : Word) (s : State) : State := { s with cpu := { s.cpu with x := w.trunc v } }

/-- `SetY(v, w)` (40_addressing_load_store.md R269). -/
def setY (w : Width) (v : Word) (s : State) : State := { s with cpu := { s.cpu with y := w.trunc v } }

/-- A stack-pointer value as the mode allows it: in emulation mode the high byte is 0x01 (10_state.md R32). -/
def stackValue (e : Bool) (v : Word) : Word := if e then wordOf (lowByte v) 0x01 else v

/-- `S <- v`, held in page 1 in emulation mode (10_state.md R32). -/
def setS (v : Word) (s : State) : State := { s with cpu := { s.cpu with s := stackValue s.cpu.e v } }

/-- `D <- v`. -/
def setD (v : Word) (s : State) : State := { s with cpu := { s.cpu with d := v } }

/-- `DB <- v`. -/
def setDb (v : Byte) (s : State) : State := { s with cpu := { s.cpu with db := v } }

/-- `PB <- v`. -/
def setPb (v : Byte) (s : State) : State := { s with cpu := { s.cpu with pb := v } }

/-- `PC <- v`; the bank is not touched (00_scope.md R13). -/
def setPc (v : Word) (s : State) : State := { s with cpu := { s.cpu with pc := v } }

/-- `P <- p`. -/
def setP (p : Status) (s : State) : State := { s with cpu := { s.cpu with p := p } }

/-- `SetNZ_w(v)` (00_scope.md R15). -/
def setNZ (w : Width) (v : Word) (s : State) : State := setP (s.cpu.p.setNZ w v) s

/-- `cycles <- cycles + n` (10_state.md R42). -/
def addCycles (n : Nat) (s : State) : State := { s with cpu := { s.cpu with cycles := s.cpu.cycles + n } }

/-- `EnforceModes()` on the CPU (10_state.md R40). -/
def Cpu.enforceModes (c : Cpu) : Cpu :=
  let p : Status := if c.e then { c.p with m := true, x := true } else c.p
  { c with
    p := p
    s := stackValue c.e c.s
    x := if p.x then zext (lowByte c.x) else c.x
    y := if p.x then zext (lowByte c.y) else c.y }

/-- `EnforceModes()` (10_state.md R40). -/
def enforceModes (s : State) : State := { s with cpu := s.cpu.enforceModes }

/-! ### Bus access -/

/-- `Rd8(a)` (20_memory.md R101). -/
def rd8 (a : Addr) (s : State) : Byte × State :=
  let r := s.bus.rd8 a
  (r.1, { s with bus := r.2 })

/-- `Wr8(a, v)` (20_memory.md R101). -/
def wr8 (a : Addr) (v : Byte) (s : State) : State := { s with bus := s.bus.wr8 s.params.dmaLayout a v }

/-- An effective address (00_scope.md R14): a linear one steps modulo 2^24, a bank-0 one modulo 2^16. -/
inductive Ea where
  | lin (a : Addr)
  | bank0 (o : Word)
  deriving DecidableEq, Repr

/-- The address of byte `k` of an access (00_scope.md R14). -/
def Ea.byteAddr (k : Nat) : Ea → Addr
  | .lin a => a + BitVec.ofNat 24 k
  | .bank0 o => addrOf 0 (o + BitVec.ofNat 16 k)

/-- `Read(ea, 2)`: the low byte first (00_scope.md R14, 20_memory.md R150). -/
def readWord (ea : Ea) (s : State) : Word × State :=
  let lo := rd8 (ea.byteAddr 0) s
  let hi := rd8 (ea.byteAddr 1) lo.2
  (wordOf lo.1 hi.1, hi.2)

/-- `Read(ea, 3)`. -/
def readLong (ea : Ea) (s : State) : Addr × State :=
  let r := readWord ea s
  let b := rd8 (ea.byteAddr 2) r.2
  (addrOf b.1 r.1, b.2)

/-- `Read(ea, w / 8)` (00_scope.md R14). -/
def readEa (ea : Ea) (w : Width) (s : State) : Word × State :=
  match w with
  | .w8 =>
    let r := rd8 (ea.byteAddr 0) s
    (zext r.1, r.2)
  | .w16 => readWord ea s

/-- `Write(ea, w / 8, v)`: the low byte first (00_scope.md R14, D55). -/
def writeEa (ea : Ea) (w : Width) (v : Word) (s : State) : State :=
  match w with
  | .w8 => wr8 (ea.byteAddr 0) (lowByte v) s
  | .w16 => wr8 (ea.byteAddr 1) (highByte v) (wr8 (ea.byteAddr 0) (lowByte v) s)

/-- The word at `bank:off`, the offset of its high byte wrapping in the bank: the pointer of JMP (a,X) and JSR (a,X)
(44_control_transfer.md R423). -/
def readBankWord (bank : Byte) (off : Word) (s : State) : Word × State :=
  let lo := rd8 (addrOf bank off) s
  let hi := rd8 (addrOf bank (off + 1)) lo.2
  (wordOf lo.1 hi.1, hi.2)

/-! ### Fetch -/

/-- `Fetch8()` (00_scope.md R15). -/
def fetch8 (s : State) : Byte × State :=
  let r := rd8 (addrOf s.cpu.pb s.cpu.pc) s
  (r.1, setPc (s.cpu.pc + 1) r.2)

/-- `n` bytes of `Fetch8()`, in order. -/
def fetchBytes : Nat → State → List Byte × State
  | 0, s => ([], s)
  | n + 1, s =>
    let r := fetch8 s
    let rest := fetchBytes n r.2
    (r.1 :: rest.1, rest.2)

/-! ### Stack -/

/-- `Push8(v)` (45_stack.md R450). -/
def push8 (v : Byte) (s : State) : State :=
  let t := wr8 (addrOf 0 s.cpu.s) v s
  setS (t.cpu.s - 1) t

/-- `Pull8()` (45_stack.md R450). -/
def pull8 (s : State) : Byte × State :=
  let t := setS (s.cpu.s + 1) s
  rd8 (addrOf 0 t.cpu.s) t

/-- `Push16(v)`: high byte first (45_stack.md R450). -/
def push16 (v : Word) (s : State) : State := push8 (lowByte v) (push8 (highByte v) s)

/-- `Pull16()`: low byte first (45_stack.md R450). -/
def pull16 (s : State) : Word × State :=
  let lo := pull8 s
  let hi := pull8 lo.2
  (wordOf lo.1 hi.1, hi.2)

/-- Push a register at a width (45_stack.md R451-R453). -/
def pushW (w : Width) (v : Word) (s : State) : State :=
  match w with
  | .w8 => push8 (lowByte v) s
  | .w16 => push16 v s

/-- Pull a value of a width (45_stack.md R461-R463). -/
def pullW (w : Width) (s : State) : Word × State :=
  match w with
  | .w8 =>
    let r := pull8 s
    (zext r.1, r.2)
  | .w16 => pull16 s

/-! ### Interrupts -/

/-- What enters through `raise Interrupt(kind)` (60_exceptions.md R556). -/
inductive Interrupt where
  | brk
  | cop
  | nmi
  | irq
  deriving DecidableEq, Repr

/-- The vector in bank 0, by kind and mode (60_exceptions.md R554). -/
def Interrupt.vector (k : Interrupt) (e : Bool) : Word :=
  match k with
  | .cop => if e then 0xFFF4 else 0xFFE4
  | .brk => if e then 0xFFFE else 0xFFE6
  | .nmi => if e then 0xFFFA else 0xFFEA
  | .irq => if e then 0xFFFE else 0xFFEE

/-- Whether the entry is a software interrupt's. -/
def Interrupt.software : Interrupt → Bool
  | .brk => true
  | .cop => true
  | .nmi => false
  | .irq => false

/-- The status an entry pushes: in emulation mode bit 4 tells software from hardware (60_exceptions.md R555). -/
def Interrupt.pushedStatus (k : Interrupt) (c : Cpu) : Status :=
  if c.e then { c.p with x := k.software } else c.p

/-- `raise Interrupt(kind)` (60_exceptions.md R556): push PB (native), PC and P; set I; clear D (native); PB = 0; an NMI's latch
is cleared; PC comes from the vector. -/
def raiseInterrupt (k : Interrupt) (s : State) : State :=
  let s := if s.cpu.e then s else push8 s.cpu.pb s
  let s := push16 s.cpu.pc s
  let s := push8 (k.pushedStatus s.cpu).toByte s
  let s := setP { s.cpu.p with i := true, d := s.cpu.e && s.cpu.p.d } s
  let s := setPb 0 s
  let s := if k = .nmi then { s with cpu := { s.cpu with nmiPending := false } } else s
  let r := readWord (.bank0 (k.vector s.cpu.e)) s
  setPc r.1 r.2

/-- The return from an interrupt: P, PC and, in native mode, PB (46_flags_mode_system.md R507). -/
def returnFromInterrupt (s : State) : State :=
  let r := pull8 s
  let s := enforceModes (setP (Status.ofByte r.1) r.2)
  let q := pull16 s
  let s := setPc q.1 q.2
  if s.cpu.e then s
  else
    let b := pull8 s
    setPb b.1 b.2

/-- `PendingInterrupt()`: NMI before IRQ (60_exceptions.md R553). -/
def pendingInterrupt (c : Cpu) : Option Interrupt :=
  if c.nmiPending then some .nmi
  else if c.irqPending && !c.p.i then some .irq
  else none

end Sys2Proof.Machine
end

