-- ==== Sys2Proof/Machine/Operands.lean ====
section
/-! DEFINITION. Addressing modes and operand helpers (40_addressing_load_store.md R250-R268). The operand bytes are fetched before
an instruction's meaning runs, so a mode carries them as its argument (log 9). -/

namespace Sys2Proof.Machine

/-- The data addressing modes with an effective address (40_addressing_load_store.md R252-R266), with their operands. -/
inductive Mode where
  | dp      (d : Byte)
  | dpx     (d : Byte)
  | dpy     (d : Byte)
  | dpind   (d : Byte)
  | dpindl  (d : Byte)
  | dpxind  (d : Byte)
  | dpindy  (d : Byte)
  | dpindly (d : Byte)
  | sr      (d : Byte)
  | sriy    (d : Byte)
  | abs     (a : Word)
  | absx    (a : Word)
  | absy    (a : Word)
  | long    (al : Addr)
  | longx   (al : Addr)
  deriving DecidableEq, Repr

/-- What an instruction reads its operand from. -/
inductive Src where
  /-- immediate (R251) -/
  | imm (c : Word)
  /-- accumulator (R267) -/
  | acc
  | mem (m : Mode)
  deriving DecidableEq, Repr

/-- A 16-bit value as a 24-bit number. -/
def zext24 (v : Word) : Addr := v.setWidth 24

/-- The direct-page address `(D + d) mod 2^16` (R252). -/
def directPage (c : Cpu) (d : Byte) : Word := c.d + zext d

/-- The stack-relative address `(S + sr) mod 2^16` (R265). -/
def stackRelative (c : Cpu) (d : Byte) : Word := c.s + zext d

/-- `(DB << 16) | p` (R255, R260). -/
def dataAddr (c : Cpu) (p : Word) : Addr := addrOf c.db p

/-- The effective address of a mode and the state after its pointer reads (R252-R266). -/
def effAddr (m : Mode) (s : State) : Ea × State :=
  match m with
  | .dp d => (.bank0 (directPage s.cpu d), s)
  | .dpx d => (.bank0 (directPage s.cpu d + s.cpu.x), s)
  | .dpy d => (.bank0 (directPage s.cpu d + s.cpu.y), s)
  | .dpind d =>
    let p := readWord (.bank0 (directPage s.cpu d)) s
    (.lin (dataAddr s.cpu p.1), p.2)
  | .dpindl d =>
    let p := readLong (.bank0 (directPage s.cpu d)) s
    (.lin p.1, p.2)
  | .dpxind d =>
    let p := readWord (.bank0 (directPage s.cpu d + s.cpu.x)) s
    (.lin (dataAddr s.cpu p.1), p.2)
  | .dpindy d =>
    let p := readWord (.bank0 (directPage s.cpu d)) s
    (.lin (dataAddr s.cpu p.1 + zext24 s.cpu.y), p.2)
  | .dpindly d =>
    let p := readLong (.bank0 (directPage s.cpu d)) s
    (.lin (p.1 + zext24 s.cpu.y), p.2)
  | .sr d => (.bank0 (stackRelative s.cpu d), s)
  | .sriy d =>
    let p := readWord (.bank0 (stackRelative s.cpu d)) s
    (.lin (dataAddr s.cpu p.1 + zext24 s.cpu.y), p.2)
  | .abs a => (.lin (dataAddr s.cpu a), s)
  | .absx a => (.lin (dataAddr s.cpu a + zext24 s.cpu.x), s)
  | .absy a => (.lin (dataAddr s.cpu a + zext24 s.cpu.y), s)
  | .long al => (.lin al, s)
  | .longx al => (.lin (al + zext24 s.cpu.x), s)

/-- `Operand(mode, w)` and the state after its reads (R268). -/
def operand (src : Src) (w : Width) (s : State) : Word × State :=
  match src with
  | .imm c => (w.trunc c, s)
  | .acc => (w.trunc s.cpu.a, s)
  | .mem m =>
    let e := effAddr m s
    readEa e.1 w e.2

/-- A read-modify-write: the effective address once, the whole read, then the write of `f` of the value; then `g`, which sets the
flags from the value read (R268). -/
def readModifyWrite (m : Mode) (w : Width) (f : Word → Word) (g : Word → State → State) (s : State) : State :=
  let e := effAddr m s
  let v := readEa e.1 w e.2
  g v.1 (writeEa e.1 w (f v.1) v.2)

end Sys2Proof.Machine
end

