-- ==== Sys2Proof/Machine/Arithmetic.lean ====
section
/-! DEFINITION. Add, subtract, compare, increment and decrement (42_arithmetic_compare.md R330-R345). -/

namespace Sys2Proof.Machine

/-- Put an adder's result in A and its flags in P: `SetA(r, w); P.C <- c; P.V <- v; SetNZ_w(r)` (42_arithmetic_compare.md R332). -/
def setAlu (w : Width) (o : AluOut) (s : State) : State :=
  setA w o.r (setP { s.cpu.p.setNZ w o.r with c := o.c, v := o.v } s)

/-- ADC (R332). -/
def opAdc (src : Src) (s : State) : State :=
  let w := wM s
  let r := operand src w s
  setAlu w (adcOut s.cpu.p.d (w.trunc s.cpu.a) r.1 s.cpu.p.c w) r.2

/-- SBC (R333). -/
def opSbc (src : Src) (s : State) : State :=
  let w := wM s
  let r := operand src w s
  setAlu w (sbcOut s.cpu.p.d (w.trunc s.cpu.a) r.1 s.cpu.p.c w) r.2

/-- A compare of a register value with the operand (R334-R336). -/
def opCompare (w : Width) (reg : Word) (src : Src) (s : State) : State :=
  let r := operand src w s
  setP (s.cpu.p.compare w (w.trunc reg) r.1) r.2

/-- CMP (R334). -/
def opCmp (src : Src) (s : State) : State := opCompare (wM s) s.cpu.a src s

/-- CPX (R335). -/
def opCpx (src : Src) (s : State) : State := opCompare (wX s) s.cpu.x src s

/-- CPY (R336). -/
def opCpy (src : Src) (s : State) : State := opCompare (wX s) s.cpu.y src s

/-- INC A and DEC A: add `by_`, which is 1 or -1, at the width of A (R337, R339). -/
def opBumpA (by_ : Word) (s : State) : State :=
  let w := wM s
  let r := w.trunc (s.cpu.a + by_)
  setNZ w r (setA w r s)

/-- INC and DEC on memory (R338, R340). -/
def opBumpMem (by_ : Word) (m : Mode) (s : State) : State :=
  let w := wM s
  readModifyWrite m w (fun v => w.trunc (v + by_)) (fun v => setNZ w (w.trunc (v + by_))) s

/-- INX and DEX (R341, R343). -/
def opBumpX (by_ : Word) (s : State) : State :=
  let w := wX s
  let r := w.trunc (s.cpu.x + by_)
  setNZ w r (setX w r s)

/-- INY and DEY (R342, R344). -/
def opBumpY (by_ : Word) (s : State) : State :=
  let w := wX s
  let r := w.trunc (s.cpu.y + by_)
  setNZ w r (setY w r s)

/-- 0x61 `ADC (d,X)` (R332). -/
def execAdcDpxind (d : Byte) (s : State) : Result := .next (opAdc (.mem (.dpxind d)) s)

/-- 0x63 `ADC d,S` (R332). -/
def execAdcSr (d : Byte) (s : State) : Result := .next (opAdc (.mem (.sr d)) s)

/-- 0x65 `ADC d` (R332). -/
def execAdcDp (d : Byte) (s : State) : Result := .next (opAdc (.mem (.dp d)) s)

/-- 0x67 `ADC [d]` (R332). -/
def execAdcDpindl (d : Byte) (s : State) : Result := .next (opAdc (.mem (.dpindl d)) s)

/-- 0x69 `ADC #c` (R332). -/
def execAdcImm (c : Word) (s : State) : Result := .next (opAdc (.imm c) s)

/-- 0x6D `ADC a` (R332). -/
def execAdcAbs (a : Word) (s : State) : Result := .next (opAdc (.mem (.abs a)) s)

/-- 0x6F `ADC al` (R332). -/
def execAdcLong (al : Addr) (s : State) : Result := .next (opAdc (.mem (.long al)) s)

/-- 0x71 `ADC (d),Y` (R332). -/
def execAdcDpindy (d : Byte) (s : State) : Result := .next (opAdc (.mem (.dpindy d)) s)

/-- 0x72 `ADC (d)` (R332). -/
def execAdcDpind (d : Byte) (s : State) : Result := .next (opAdc (.mem (.dpind d)) s)

/-- 0x73 `ADC (d,S),Y` (R332). -/
def execAdcSriy (d : Byte) (s : State) : Result := .next (opAdc (.mem (.sriy d)) s)

/-- 0x75 `ADC d,X` (R332). -/
def execAdcDpx (d : Byte) (s : State) : Result := .next (opAdc (.mem (.dpx d)) s)

/-- 0x77 `ADC [d],Y` (R332). -/
def execAdcDpindly (d : Byte) (s : State) : Result := .next (opAdc (.mem (.dpindly d)) s)

/-- 0x79 `ADC a,Y` (R332). -/
def execAdcAbsy (a : Word) (s : State) : Result := .next (opAdc (.mem (.absy a)) s)

/-- 0x7D `ADC a,X` (R332). -/
def execAdcAbsx (a : Word) (s : State) : Result := .next (opAdc (.mem (.absx a)) s)

/-- 0x7F `ADC al,X` (R332). -/
def execAdcLongx (al : Addr) (s : State) : Result := .next (opAdc (.mem (.longx al)) s)

/-- 0xE1 `SBC (d,X)` (R333). -/
def execSbcDpxind (d : Byte) (s : State) : Result := .next (opSbc (.mem (.dpxind d)) s)

/-- 0xE3 `SBC d,S` (R333). -/
def execSbcSr (d : Byte) (s : State) : Result := .next (opSbc (.mem (.sr d)) s)

/-- 0xE5 `SBC d` (R333). -/
def execSbcDp (d : Byte) (s : State) : Result := .next (opSbc (.mem (.dp d)) s)

/-- 0xE7 `SBC [d]` (R333). -/
def execSbcDpindl (d : Byte) (s : State) : Result := .next (opSbc (.mem (.dpindl d)) s)

/-- 0xE9 `SBC #c` (R333). -/
def execSbcImm (c : Word) (s : State) : Result := .next (opSbc (.imm c) s)

/-- 0xED `SBC a` (R333). -/
def execSbcAbs (a : Word) (s : State) : Result := .next (opSbc (.mem (.abs a)) s)

/-- 0xEF `SBC al` (R333). -/
def execSbcLong (al : Addr) (s : State) : Result := .next (opSbc (.mem (.long al)) s)

/-- 0xF1 `SBC (d),Y` (R333). -/
def execSbcDpindy (d : Byte) (s : State) : Result := .next (opSbc (.mem (.dpindy d)) s)

/-- 0xF2 `SBC (d)` (R333). -/
def execSbcDpind (d : Byte) (s : State) : Result := .next (opSbc (.mem (.dpind d)) s)

/-- 0xF3 `SBC (d,S),Y` (R333). -/
def execSbcSriy (d : Byte) (s : State) : Result := .next (opSbc (.mem (.sriy d)) s)

/-- 0xF5 `SBC d,X` (R333). -/
def execSbcDpx (d : Byte) (s : State) : Result := .next (opSbc (.mem (.dpx d)) s)

/-- 0xF7 `SBC [d],Y` (R333). -/
def execSbcDpindly (d : Byte) (s : State) : Result := .next (opSbc (.mem (.dpindly d)) s)

/-- 0xF9 `SBC a,Y` (R333). -/
def execSbcAbsy (a : Word) (s : State) : Result := .next (opSbc (.mem (.absy a)) s)

/-- 0xFD `SBC a,X` (R333). -/
def execSbcAbsx (a : Word) (s : State) : Result := .next (opSbc (.mem (.absx a)) s)

/-- 0xFF `SBC al,X` (R333). -/
def execSbcLongx (al : Addr) (s : State) : Result := .next (opSbc (.mem (.longx al)) s)

/-- 0xC1 `CMP (d,X)` (R334). -/
def execCmpDpxind (d : Byte) (s : State) : Result := .next (opCmp (.mem (.dpxind d)) s)

/-- 0xC3 `CMP d,S` (R334). -/
def execCmpSr (d : Byte) (s : State) : Result := .next (opCmp (.mem (.sr d)) s)

/-- 0xC5 `CMP d` (R334). -/
def execCmpDp (d : Byte) (s : State) : Result := .next (opCmp (.mem (.dp d)) s)

/-- 0xC7 `CMP [d]` (R334). -/
def execCmpDpindl (d : Byte) (s : State) : Result := .next (opCmp (.mem (.dpindl d)) s)

/-- 0xC9 `CMP #c` (R334). -/
def execCmpImm (c : Word) (s : State) : Result := .next (opCmp (.imm c) s)

/-- 0xCD `CMP a` (R334). -/
def execCmpAbs (a : Word) (s : State) : Result := .next (opCmp (.mem (.abs a)) s)

/-- 0xCF `CMP al` (R334). -/
def execCmpLong (al : Addr) (s : State) : Result := .next (opCmp (.mem (.long al)) s)

/-- 0xD1 `CMP (d),Y` (R334). -/
def execCmpDpindy (d : Byte) (s : State) : Result := .next (opCmp (.mem (.dpindy d)) s)

/-- 0xD2 `CMP (d)` (R334). -/
def execCmpDpind (d : Byte) (s : State) : Result := .next (opCmp (.mem (.dpind d)) s)

/-- 0xD3 `CMP (d,S),Y` (R334). -/
def execCmpSriy (d : Byte) (s : State) : Result := .next (opCmp (.mem (.sriy d)) s)

/-- 0xD5 `CMP d,X` (R334). -/
def execCmpDpx (d : Byte) (s : State) : Result := .next (opCmp (.mem (.dpx d)) s)

/-- 0xD7 `CMP [d],Y` (R334). -/
def execCmpDpindly (d : Byte) (s : State) : Result := .next (opCmp (.mem (.dpindly d)) s)

/-- 0xD9 `CMP a,Y` (R334). -/
def execCmpAbsy (a : Word) (s : State) : Result := .next (opCmp (.mem (.absy a)) s)

/-- 0xDD `CMP a,X` (R334). -/
def execCmpAbsx (a : Word) (s : State) : Result := .next (opCmp (.mem (.absx a)) s)

/-- 0xDF `CMP al,X` (R334). -/
def execCmpLongx (al : Addr) (s : State) : Result := .next (opCmp (.mem (.longx al)) s)

/-- 0xE0 `CPX #c` (R335). -/
def execCpxImm (c : Word) (s : State) : Result := .next (opCpx (.imm c) s)

/-- 0xE4 `CPX d` (R335). -/
def execCpxDp (d : Byte) (s : State) : Result := .next (opCpx (.mem (.dp d)) s)

/-- 0xEC `CPX a` (R335). -/
def execCpxAbs (a : Word) (s : State) : Result := .next (opCpx (.mem (.abs a)) s)

/-- 0xC0 `CPY #c` (R336). -/
def execCpyImm (c : Word) (s : State) : Result := .next (opCpy (.imm c) s)

/-- 0xC4 `CPY d` (R336). -/
def execCpyDp (d : Byte) (s : State) : Result := .next (opCpy (.mem (.dp d)) s)

/-- 0xCC `CPY a` (R336). -/
def execCpyAbs (a : Word) (s : State) : Result := .next (opCpy (.mem (.abs a)) s)

/-- 0x1A `INC A` (R337). -/
def execIncAcc (s : State) : Result := .next (opBumpA 1 s)

/-- 0xE6 `INC d` (R338). -/
def execIncDp (d : Byte) (s : State) : Result := .next (opBumpMem 1 (.dp d) s)

/-- 0xEE `INC a` (R338). -/
def execIncAbs (a : Word) (s : State) : Result := .next (opBumpMem 1 (.abs a) s)

/-- 0xF6 `INC d,X` (R338). -/
def execIncDpx (d : Byte) (s : State) : Result := .next (opBumpMem 1 (.dpx d) s)

/-- 0xFE `INC a,X` (R338). -/
def execIncAbsx (a : Word) (s : State) : Result := .next (opBumpMem 1 (.absx a) s)

/-- 0x3A `DEC A` (R339). -/
def execDecAcc (s : State) : Result := .next (opBumpA (-1) s)

/-- 0xC6 `DEC d` (R340). -/
def execDecDp (d : Byte) (s : State) : Result := .next (opBumpMem (-1) (.dp d) s)

/-- 0xCE `DEC a` (R340). -/
def execDecAbs (a : Word) (s : State) : Result := .next (opBumpMem (-1) (.abs a) s)

/-- 0xD6 `DEC d,X` (R340). -/
def execDecDpx (d : Byte) (s : State) : Result := .next (opBumpMem (-1) (.dpx d) s)

/-- 0xDE `DEC a,X` (R340). -/
def execDecAbsx (a : Word) (s : State) : Result := .next (opBumpMem (-1) (.absx a) s)

/-- 0xE8 `INX` (R341). -/
def execInx (s : State) : Result := .next (opBumpX 1 s)

/-- 0xC8 `INY` (R342). -/
def execIny (s : State) : Result := .next (opBumpY 1 s)

/-- 0xCA `DEX` (R343). -/
def execDex (s : State) : Result := .next (opBumpX (-1) s)

/-- 0x88 `DEY` (R344). -/
def execDey (s : State) : Result := .next (opBumpY (-1) s)

end Sys2Proof.Machine
end

