-- ==== Sys2Proof/Machine/BlockMove.lean ====
section
/-! DEFINITION. Block moves, one byte a step (47_block_move.md R530-R532). -/

namespace Sys2Proof.Machine

/-- One byte of a block move, the index registers stepping by `by_`; PC goes back to the opcode until the count in A has
passed 0 (47_block_move.md R530, R531). -/
def opBlockMove (by_ : Word) (dst src : Byte) (s : State) : State :=
  let w := wX s
  let t := setDb dst s
  let r := rd8 (addrOf src t.cpu.x) t
  let t := wr8 (addrOf dst r.2.cpu.y) r.1 r.2
  let t := setY w (t.cpu.y + by_) (setX w (t.cpu.x + by_) t)
  let t := setA .w16 (t.cpu.a - 1) t
  if t.cpu.a = 0xFFFF then t else setPc (t.cpu.pc - 3) t

/-- 0x54 `MVN s,d` (R530). -/
def execMvnBm (dst : Byte) (src : Byte) (s : State) : Result := .next (opBlockMove 1 dst src s)

/-- 0x44 `MVP s,d` (R531). -/
def execMvpBm (dst : Byte) (src : Byte) (s : State) : Result := .next (opBlockMove (-1) dst src s)

end Sys2Proof.Machine
end

