-- ==== Sys2Proof/Machine/Control.lean ====
section
/-! DEFINITION. Branches, jumps, calls and returns (44_control_transfer.md R410-R432). -/

namespace Sys2Proof.Machine

/-- `Branch(cond)`: PC is already the next instruction's address; PB is not touched (44_control_transfer.md R410). -/
def opBranch (cond : Bool) (r : Byte) (s : State) : State :=
  if cond then setPc (s.cpu.pc + sext8 r) s else s

/-- `PB <- t >> 16; PC <- t & 0xFFFF` (R424). -/
def jumpLong (t : Addr) (s : State) : State := setPb (addrBank t) (setPc (addrOffset t) s)

/-- `Push16((PC - 1) mod 2^16)`: the address of the last byte of the call (R426). -/
def pushReturn (s : State) : State := push16 (s.cpu.pc - 1) s

/-- `PC <- pointer at PB:((a + X) mod 2^16)` (R423, R427). -/
def jumpIndexed (a : Word) (s : State) : State :=
  let r := readBankWord s.cpu.pb (a + s.cpu.x) s
  setPc r.1 r.2

/-- JMP (a): the pointer is in bank 0 (R422). -/
def opJmpInd (a : Word) (s : State) : State :=
  let r := readWord (.bank0 a) s
  setPc r.1 r.2

/-- JML [a]: the 3-byte pointer is in bank 0 (R425). -/
def opJmlInd (a : Word) (s : State) : State :=
  let r := readLong (.bank0 a) s
  jumpLong r.1 r.2

/-- RTS (R429). -/
def opRts (s : State) : State :=
  let r := pull16 s
  setPc (r.1 + 1) r.2

/-- RTL (R430). -/
def opRtl (s : State) : State :=
  let t := opRts s
  let b := pull8 t
  setPb b.1 b.2

/-- 0x10 `BPL r` (R411). -/
def execBplRel (r : Byte) (s : State) : Result := .next (opBranch (!s.cpu.p.n) r s)

/-- 0x30 `BMI r` (R412). -/
def execBmiRel (r : Byte) (s : State) : Result := .next (opBranch s.cpu.p.n r s)

/-- 0x50 `BVC r` (R413). -/
def execBvcRel (r : Byte) (s : State) : Result := .next (opBranch (!s.cpu.p.v) r s)

/-- 0x70 `BVS r` (R414). -/
def execBvsRel (r : Byte) (s : State) : Result := .next (opBranch s.cpu.p.v r s)

/-- 0x90 `BCC r` (R415). -/
def execBccRel (r : Byte) (s : State) : Result := .next (opBranch (!s.cpu.p.c) r s)

/-- 0xB0 `BCS r` (R416). -/
def execBcsRel (r : Byte) (s : State) : Result := .next (opBranch s.cpu.p.c r s)

/-- 0xD0 `BNE r` (R417). -/
def execBneRel (r : Byte) (s : State) : Result := .next (opBranch (!s.cpu.p.z) r s)

/-- 0xF0 `BEQ r` (R418). -/
def execBeqRel (r : Byte) (s : State) : Result := .next (opBranch s.cpu.p.z r s)

/-- 0x80 `BRA r` (R419). -/
def execBraRel (r : Byte) (s : State) : Result := .next (opBranch true r s)

/-- 0x82 `BRL rl` (R420). -/
def execBrlRell (r : Word) (s : State) : Result := .next (setPc (s.cpu.pc + r) s)

/-- 0x4C `JMP a` (R421). -/
def execJmpAbs (a : Word) (s : State) : Result := .next (setPc a s)

/-- 0x6C `JMP (a)` (R422). -/
def execJmpAbsind (a : Word) (s : State) : Result := .next (opJmpInd a s)

/-- 0x7C `JMP (a,X)` (R423). -/
def execJmpAbsxind (a : Word) (s : State) : Result := .next (jumpIndexed a s)

/-- 0x5C `JML al` (R424). -/
def execJmlLong (al : Addr) (s : State) : Result := .next (jumpLong al s)

/-- 0xDC `JML [a]` (R425). -/
def execJmlAbsindl (a : Word) (s : State) : Result := .next (opJmlInd a s)

/-- 0x20 `JSR a` (R426). -/
def execJsrAbs (a : Word) (s : State) : Result := .next (setPc a (pushReturn s))

/-- 0xFC `JSR (a,X)` (R427). -/
def execJsrAbsxind (a : Word) (s : State) : Result := .next (jumpIndexed a (pushReturn s))

/-- 0x22 `JSL al` (R428). -/
def execJslLong (al : Addr) (s : State) : Result := .next (jumpLong al (pushReturn (push8 s.cpu.pb s)))

/-- 0x60 `RTS` (R429). -/
def execRts (s : State) : Result := .next (opRts s)

/-- 0x6B `RTL` (R430). -/
def execRtl (s : State) : Result := .next (opRtl s)

end Sys2Proof.Machine
end

