-- ==== Sys2Proof/Machine/LoadStore.lean ====
section
/-! DEFINITION. Loads and stores (40_addressing_load_store.md R270-R276). -/

namespace Sys2Proof.Machine

/-- LDA (R270). -/
def opLda (src : Src) (s : State) : State :=
  let r := operand src (wM s) s
  setNZ (wM s) r.1 (setA (wM s) r.1 r.2)

/-- LDX (R271). -/
def opLdx (src : Src) (s : State) : State :=
  let r := operand src (wX s) s
  setNZ (wX s) r.1 (setX (wX s) r.1 r.2)

/-- LDY (R272). -/
def opLdy (src : Src) (s : State) : State :=
  let r := operand src (wX s) s
  setNZ (wX s) r.1 (setY (wX s) r.1 r.2)

/-- A store of `v` at a width: STA, STX, STY, STZ (R273-R276). -/
def opStore (m : Mode) (w : Width) (v : Word) (s : State) : State :=
  let e := effAddr m s
  writeEa e.1 w v e.2

/-- STA (R273). -/
def opSta (m : Mode) (s : State) : State := opStore m (wM s) s.cpu.a s

/-- STX (R274). -/
def opStx (m : Mode) (s : State) : State := opStore m (wX s) s.cpu.x s

/-- STY (R275). -/
def opSty (m : Mode) (s : State) : State := opStore m (wX s) s.cpu.y s

/-- STZ (R276). -/
def opStz (m : Mode) (s : State) : State := opStore m (wM s) 0 s

/-- 0xA1 `LDA (d,X)` (R270). -/
def execLdaDpxind (d : Byte) (s : State) : Result := .next (opLda (.mem (.dpxind d)) s)

/-- 0xA3 `LDA d,S` (R270). -/
def execLdaSr (d : Byte) (s : State) : Result := .next (opLda (.mem (.sr d)) s)

/-- 0xA5 `LDA d` (R270). -/
def execLdaDp (d : Byte) (s : State) : Result := .next (opLda (.mem (.dp d)) s)

/-- 0xA7 `LDA [d]` (R270). -/
def execLdaDpindl (d : Byte) (s : State) : Result := .next (opLda (.mem (.dpindl d)) s)

/-- 0xA9 `LDA #c` (R270). -/
def execLdaImm (c : Word) (s : State) : Result := .next (opLda (.imm c) s)

/-- 0xAD `LDA a` (R270). -/
def execLdaAbs (a : Word) (s : State) : Result := .next (opLda (.mem (.abs a)) s)

/-- 0xAF `LDA al` (R270). -/
def execLdaLong (al : Addr) (s : State) : Result := .next (opLda (.mem (.long al)) s)

/-- 0xB1 `LDA (d),Y` (R270). -/
def execLdaDpindy (d : Byte) (s : State) : Result := .next (opLda (.mem (.dpindy d)) s)

/-- 0xB2 `LDA (d)` (R270). -/
def execLdaDpind (d : Byte) (s : State) : Result := .next (opLda (.mem (.dpind d)) s)

/-- 0xB3 `LDA (d,S),Y` (R270). -/
def execLdaSriy (d : Byte) (s : State) : Result := .next (opLda (.mem (.sriy d)) s)

/-- 0xB5 `LDA d,X` (R270). -/
def execLdaDpx (d : Byte) (s : State) : Result := .next (opLda (.mem (.dpx d)) s)

/-- 0xB7 `LDA [d],Y` (R270). -/
def execLdaDpindly (d : Byte) (s : State) : Result := .next (opLda (.mem (.dpindly d)) s)

/-- 0xB9 `LDA a,Y` (R270). -/
def execLdaAbsy (a : Word) (s : State) : Result := .next (opLda (.mem (.absy a)) s)

/-- 0xBD `LDA a,X` (R270). -/
def execLdaAbsx (a : Word) (s : State) : Result := .next (opLda (.mem (.absx a)) s)

/-- 0xBF `LDA al,X` (R270). -/
def execLdaLongx (al : Addr) (s : State) : Result := .next (opLda (.mem (.longx al)) s)

/-- 0xA2 `LDX #c` (R271). -/
def execLdxImm (c : Word) (s : State) : Result := .next (opLdx (.imm c) s)

/-- 0xA6 `LDX d` (R271). -/
def execLdxDp (d : Byte) (s : State) : Result := .next (opLdx (.mem (.dp d)) s)

/-- 0xAE `LDX a` (R271). -/
def execLdxAbs (a : Word) (s : State) : Result := .next (opLdx (.mem (.abs a)) s)

/-- 0xB6 `LDX d,Y` (R271). -/
def execLdxDpy (d : Byte) (s : State) : Result := .next (opLdx (.mem (.dpy d)) s)

/-- 0xBE `LDX a,Y` (R271). -/
def execLdxAbsy (a : Word) (s : State) : Result := .next (opLdx (.mem (.absy a)) s)

/-- 0xA0 `LDY #c` (R272). -/
def execLdyImm (c : Word) (s : State) : Result := .next (opLdy (.imm c) s)

/-- 0xA4 `LDY d` (R272). -/
def execLdyDp (d : Byte) (s : State) : Result := .next (opLdy (.mem (.dp d)) s)

/-- 0xAC `LDY a` (R272). -/
def execLdyAbs (a : Word) (s : State) : Result := .next (opLdy (.mem (.abs a)) s)

/-- 0xB4 `LDY d,X` (R272). -/
def execLdyDpx (d : Byte) (s : State) : Result := .next (opLdy (.mem (.dpx d)) s)

/-- 0xBC `LDY a,X` (R272). -/
def execLdyAbsx (a : Word) (s : State) : Result := .next (opLdy (.mem (.absx a)) s)

/-- 0x81 `STA (d,X)` (R273). -/
def execStaDpxind (d : Byte) (s : State) : Result := .next (opSta (.dpxind d) s)

/-- 0x83 `STA d,S` (R273). -/
def execStaSr (d : Byte) (s : State) : Result := .next (opSta (.sr d) s)

/-- 0x85 `STA d` (R273). -/
def execStaDp (d : Byte) (s : State) : Result := .next (opSta (.dp d) s)

/-- 0x87 `STA [d]` (R273). -/
def execStaDpindl (d : Byte) (s : State) : Result := .next (opSta (.dpindl d) s)

/-- 0x8D `STA a` (R273). -/
def execStaAbs (a : Word) (s : State) : Result := .next (opSta (.abs a) s)

/-- 0x8F `STA al` (R273). -/
def execStaLong (al : Addr) (s : State) : Result := .next (opSta (.long al) s)

/-- 0x91 `STA (d),Y` (R273). -/
def execStaDpindy (d : Byte) (s : State) : Result := .next (opSta (.dpindy d) s)

/-- 0x92 `STA (d)` (R273). -/
def execStaDpind (d : Byte) (s : State) : Result := .next (opSta (.dpind d) s)

/-- 0x93 `STA (d,S),Y` (R273). -/
def execStaSriy (d : Byte) (s : State) : Result := .next (opSta (.sriy d) s)

/-- 0x95 `STA d,X` (R273). -/
def execStaDpx (d : Byte) (s : State) : Result := .next (opSta (.dpx d) s)

/-- 0x97 `STA [d],Y` (R273). -/
def execStaDpindly (d : Byte) (s : State) : Result := .next (opSta (.dpindly d) s)

/-- 0x99 `STA a,Y` (R273). -/
def execStaAbsy (a : Word) (s : State) : Result := .next (opSta (.absy a) s)

/-- 0x9D `STA a,X` (R273). -/
def execStaAbsx (a : Word) (s : State) : Result := .next (opSta (.absx a) s)

/-- 0x9F `STA al,X` (R273). -/
def execStaLongx (al : Addr) (s : State) : Result := .next (opSta (.longx al) s)

/-- 0x86 `STX d` (R274). -/
def execStxDp (d : Byte) (s : State) : Result := .next (opStx (.dp d) s)

/-- 0x8E `STX a` (R274). -/
def execStxAbs (a : Word) (s : State) : Result := .next (opStx (.abs a) s)

/-- 0x96 `STX d,Y` (R274). -/
def execStxDpy (d : Byte) (s : State) : Result := .next (opStx (.dpy d) s)

/-- 0x84 `STY d` (R275). -/
def execStyDp (d : Byte) (s : State) : Result := .next (opSty (.dp d) s)

/-- 0x8C `STY a` (R275). -/
def execStyAbs (a : Word) (s : State) : Result := .next (opSty (.abs a) s)

/-- 0x94 `STY d,X` (R275). -/
def execStyDpx (d : Byte) (s : State) : Result := .next (opSty (.dpx d) s)

/-- 0x64 `STZ d` (R276). -/
def execStzDp (d : Byte) (s : State) : Result := .next (opStz (.dp d) s)

/-- 0x74 `STZ d,X` (R276). -/
def execStzDpx (d : Byte) (s : State) : Result := .next (opStz (.dpx d) s)

/-- 0x9C `STZ a` (R276). -/
def execStzAbs (a : Word) (s : State) : Result := .next (opStz (.abs a) s)

/-- 0x9E `STZ a,X` (R276). -/
def execStzAbsx (a : Word) (s : State) : Result := .next (opStz (.absx a) s)

end Sys2Proof.Machine
end

