-- ==== Sys2Proof/Machine/Logical.lean ====
section
/-! DEFINITION. Logical operations, bit tests, shifts and rotates (43_logical_bit_shift.md R370-R381). -/

namespace Sys2Proof.Machine

/-- AND, ORA and EOR: `f` of A and the operand (43_logical_bit_shift.md R370-R372). -/
def opLogic (f : Word → Word → Word) (src : Src) (s : State) : State :=
  let w := wM s
  let r := operand src w s
  let v := f (w.trunc s.cpu.a) r.1
  setNZ w v (setA w v r.2)

/-- `P.Z <- ((A & mask(w) & v) = 0)` (R373-R376). -/
def setZTest (w : Width) (v : Word) (s : State) : State := setP { s.cpu.p with z := w.trunc s.cpu.a &&& v == 0 } s

/-- BIT on memory: Z from the AND, N and V from the operand's two top bits (R373). -/
def opBitMem (m : Mode) (s : State) : State :=
  let w := wM s
  let r := operand (.mem m) w s
  setP { r.2.cpu.p with z := w.trunc s.cpu.a &&& r.1 == 0, n := w.msb r.1, v := w.bitBelowMsb r.1 } r.2

/-- BIT immediate: Z only (R374). -/
def opBitImm (c : Word) (s : State) : State :=
  let w := wM s
  setZTest w (w.trunc c) s

/-- TSB (R375). -/
def opTsb (m : Mode) (s : State) : State :=
  let w := wM s
  readModifyWrite m w (fun v => v ||| w.trunc s.cpu.a) (setZTest w) s

/-- TRB (R376). -/
def opTrb (m : Mode) (s : State) : State :=
  let w := wM s
  readModifyWrite m w (fun v => v &&& w.compl (w.trunc s.cpu.a)) (setZTest w) s

/-- `P.C <- c; SetNZ_w(r)` (R377). -/
def setShiftFlags (w : Width) (o : Word × Bool) (s : State) : State :=
  setP { s.cpu.p.setNZ w o.1 with c := o.2 } s

/-- A shift of the accumulator (R377). -/
def opShiftA (op : Shift) (s : State) : State :=
  let w := wM s
  let o := op.apply (w.trunc s.cpu.a) s.cpu.p.c w
  setShiftFlags w o (setA w o.1 s)

/-- A shift of memory (R377). -/
def opShiftMem (op : Shift) (m : Mode) (s : State) : State :=
  let w := wM s
  readModifyWrite m w (fun v => (op.apply v s.cpu.p.c w).1) (fun v => setShiftFlags w (op.apply v s.cpu.p.c w)) s

/-- 0x21 `AND (d,X)` (R370). -/
def execAndDpxind (d : Byte) (s : State) : Result := .next (opLogic (· &&& ·) (.mem (.dpxind d)) s)

/-- 0x23 `AND d,S` (R370). -/
def execAndSr (d : Byte) (s : State) : Result := .next (opLogic (· &&& ·) (.mem (.sr d)) s)

/-- 0x25 `AND d` (R370). -/
def execAndDp (d : Byte) (s : State) : Result := .next (opLogic (· &&& ·) (.mem (.dp d)) s)

/-- 0x27 `AND [d]` (R370). -/
def execAndDpindl (d : Byte) (s : State) : Result := .next (opLogic (· &&& ·) (.mem (.dpindl d)) s)

/-- 0x29 `AND #c` (R370). -/
def execAndImm (c : Word) (s : State) : Result := .next (opLogic (· &&& ·) (.imm c) s)

/-- 0x2D `AND a` (R370). -/
def execAndAbs (a : Word) (s : State) : Result := .next (opLogic (· &&& ·) (.mem (.abs a)) s)

/-- 0x2F `AND al` (R370). -/
def execAndLong (al : Addr) (s : State) : Result := .next (opLogic (· &&& ·) (.mem (.long al)) s)

/-- 0x31 `AND (d),Y` (R370). -/
def execAndDpindy (d : Byte) (s : State) : Result := .next (opLogic (· &&& ·) (.mem (.dpindy d)) s)

/-- 0x32 `AND (d)` (R370). -/
def execAndDpind (d : Byte) (s : State) : Result := .next (opLogic (· &&& ·) (.mem (.dpind d)) s)

/-- 0x33 `AND (d,S),Y` (R370). -/
def execAndSriy (d : Byte) (s : State) : Result := .next (opLogic (· &&& ·) (.mem (.sriy d)) s)

/-- 0x35 `AND d,X` (R370). -/
def execAndDpx (d : Byte) (s : State) : Result := .next (opLogic (· &&& ·) (.mem (.dpx d)) s)

/-- 0x37 `AND [d],Y` (R370). -/
def execAndDpindly (d : Byte) (s : State) : Result := .next (opLogic (· &&& ·) (.mem (.dpindly d)) s)

/-- 0x39 `AND a,Y` (R370). -/
def execAndAbsy (a : Word) (s : State) : Result := .next (opLogic (· &&& ·) (.mem (.absy a)) s)

/-- 0x3D `AND a,X` (R370). -/
def execAndAbsx (a : Word) (s : State) : Result := .next (opLogic (· &&& ·) (.mem (.absx a)) s)

/-- 0x3F `AND al,X` (R370). -/
def execAndLongx (al : Addr) (s : State) : Result := .next (opLogic (· &&& ·) (.mem (.longx al)) s)

/-- 0x01 `ORA (d,X)` (R371). -/
def execOraDpxind (d : Byte) (s : State) : Result := .next (opLogic (· ||| ·) (.mem (.dpxind d)) s)

/-- 0x03 `ORA d,S` (R371). -/
def execOraSr (d : Byte) (s : State) : Result := .next (opLogic (· ||| ·) (.mem (.sr d)) s)

/-- 0x05 `ORA d` (R371). -/
def execOraDp (d : Byte) (s : State) : Result := .next (opLogic (· ||| ·) (.mem (.dp d)) s)

/-- 0x07 `ORA [d]` (R371). -/
def execOraDpindl (d : Byte) (s : State) : Result := .next (opLogic (· ||| ·) (.mem (.dpindl d)) s)

/-- 0x09 `ORA #c` (R371). -/
def execOraImm (c : Word) (s : State) : Result := .next (opLogic (· ||| ·) (.imm c) s)

/-- 0x0D `ORA a` (R371). -/
def execOraAbs (a : Word) (s : State) : Result := .next (opLogic (· ||| ·) (.mem (.abs a)) s)

/-- 0x0F `ORA al` (R371). -/
def execOraLong (al : Addr) (s : State) : Result := .next (opLogic (· ||| ·) (.mem (.long al)) s)

/-- 0x11 `ORA (d),Y` (R371). -/
def execOraDpindy (d : Byte) (s : State) : Result := .next (opLogic (· ||| ·) (.mem (.dpindy d)) s)

/-- 0x12 `ORA (d)` (R371). -/
def execOraDpind (d : Byte) (s : State) : Result := .next (opLogic (· ||| ·) (.mem (.dpind d)) s)

/-- 0x13 `ORA (d,S),Y` (R371). -/
def execOraSriy (d : Byte) (s : State) : Result := .next (opLogic (· ||| ·) (.mem (.sriy d)) s)

/-- 0x15 `ORA d,X` (R371). -/
def execOraDpx (d : Byte) (s : State) : Result := .next (opLogic (· ||| ·) (.mem (.dpx d)) s)

/-- 0x17 `ORA [d],Y` (R371). -/
def execOraDpindly (d : Byte) (s : State) : Result := .next (opLogic (· ||| ·) (.mem (.dpindly d)) s)

/-- 0x19 `ORA a,Y` (R371). -/
def execOraAbsy (a : Word) (s : State) : Result := .next (opLogic (· ||| ·) (.mem (.absy a)) s)

/-- 0x1D `ORA a,X` (R371). -/
def execOraAbsx (a : Word) (s : State) : Result := .next (opLogic (· ||| ·) (.mem (.absx a)) s)

/-- 0x1F `ORA al,X` (R371). -/
def execOraLongx (al : Addr) (s : State) : Result := .next (opLogic (· ||| ·) (.mem (.longx al)) s)

/-- 0x41 `EOR (d,X)` (R372). -/
def execEorDpxind (d : Byte) (s : State) : Result := .next (opLogic (· ^^^ ·) (.mem (.dpxind d)) s)

/-- 0x43 `EOR d,S` (R372). -/
def execEorSr (d : Byte) (s : State) : Result := .next (opLogic (· ^^^ ·) (.mem (.sr d)) s)

/-- 0x45 `EOR d` (R372). -/
def execEorDp (d : Byte) (s : State) : Result := .next (opLogic (· ^^^ ·) (.mem (.dp d)) s)

/-- 0x47 `EOR [d]` (R372). -/
def execEorDpindl (d : Byte) (s : State) : Result := .next (opLogic (· ^^^ ·) (.mem (.dpindl d)) s)

/-- 0x49 `EOR #c` (R372). -/
def execEorImm (c : Word) (s : State) : Result := .next (opLogic (· ^^^ ·) (.imm c) s)

/-- 0x4D `EOR a` (R372). -/
def execEorAbs (a : Word) (s : State) : Result := .next (opLogic (· ^^^ ·) (.mem (.abs a)) s)

/-- 0x4F `EOR al` (R372). -/
def execEorLong (al : Addr) (s : State) : Result := .next (opLogic (· ^^^ ·) (.mem (.long al)) s)

/-- 0x51 `EOR (d),Y` (R372). -/
def execEorDpindy (d : Byte) (s : State) : Result := .next (opLogic (· ^^^ ·) (.mem (.dpindy d)) s)

/-- 0x52 `EOR (d)` (R372). -/
def execEorDpind (d : Byte) (s : State) : Result := .next (opLogic (· ^^^ ·) (.mem (.dpind d)) s)

/-- 0x53 `EOR (d,S),Y` (R372). -/
def execEorSriy (d : Byte) (s : State) : Result := .next (opLogic (· ^^^ ·) (.mem (.sriy d)) s)

/-- 0x55 `EOR d,X` (R372). -/
def execEorDpx (d : Byte) (s : State) : Result := .next (opLogic (· ^^^ ·) (.mem (.dpx d)) s)

/-- 0x57 `EOR [d],Y` (R372). -/
def execEorDpindly (d : Byte) (s : State) : Result := .next (opLogic (· ^^^ ·) (.mem (.dpindly d)) s)

/-- 0x59 `EOR a,Y` (R372). -/
def execEorAbsy (a : Word) (s : State) : Result := .next (opLogic (· ^^^ ·) (.mem (.absy a)) s)

/-- 0x5D `EOR a,X` (R372). -/
def execEorAbsx (a : Word) (s : State) : Result := .next (opLogic (· ^^^ ·) (.mem (.absx a)) s)

/-- 0x5F `EOR al,X` (R372). -/
def execEorLongx (al : Addr) (s : State) : Result := .next (opLogic (· ^^^ ·) (.mem (.longx al)) s)

/-- 0x24 `BIT d` (R373). -/
def execBitDp (d : Byte) (s : State) : Result := .next (opBitMem (.dp d) s)

/-- 0x2C `BIT a` (R373). -/
def execBitAbs (a : Word) (s : State) : Result := .next (opBitMem (.abs a) s)

/-- 0x34 `BIT d,X` (R373). -/
def execBitDpx (d : Byte) (s : State) : Result := .next (opBitMem (.dpx d) s)

/-- 0x3C `BIT a,X` (R373). -/
def execBitAbsx (a : Word) (s : State) : Result := .next (opBitMem (.absx a) s)

/-- 0x89 `BIT #c` (R374). -/
def execBitImm (c : Word) (s : State) : Result := .next (opBitImm c s)

/-- 0x04 `TSB d` (R375). -/
def execTsbDp (d : Byte) (s : State) : Result := .next (opTsb (.dp d) s)

/-- 0x0C `TSB a` (R375). -/
def execTsbAbs (a : Word) (s : State) : Result := .next (opTsb (.abs a) s)

/-- 0x14 `TRB d` (R376). -/
def execTrbDp (d : Byte) (s : State) : Result := .next (opTrb (.dp d) s)

/-- 0x1C `TRB a` (R376). -/
def execTrbAbs (a : Word) (s : State) : Result := .next (opTrb (.abs a) s)

/-- 0x06 `ASL d` (R378). -/
def execAslDp (d : Byte) (s : State) : Result := .next (opShiftMem .asl (.dp d) s)

/-- 0x0A `ASL A` (R378). -/
def execAslAcc (s : State) : Result := .next (opShiftA .asl s)

/-- 0x0E `ASL a` (R378). -/
def execAslAbs (a : Word) (s : State) : Result := .next (opShiftMem .asl (.abs a) s)

/-- 0x16 `ASL d,X` (R378). -/
def execAslDpx (d : Byte) (s : State) : Result := .next (opShiftMem .asl (.dpx d) s)

/-- 0x1E `ASL a,X` (R378). -/
def execAslAbsx (a : Word) (s : State) : Result := .next (opShiftMem .asl (.absx a) s)

/-- 0x46 `LSR d` (R379). -/
def execLsrDp (d : Byte) (s : State) : Result := .next (opShiftMem .lsr (.dp d) s)

/-- 0x4A `LSR A` (R379). -/
def execLsrAcc (s : State) : Result := .next (opShiftA .lsr s)

/-- 0x4E `LSR a` (R379). -/
def execLsrAbs (a : Word) (s : State) : Result := .next (opShiftMem .lsr (.abs a) s)

/-- 0x56 `LSR d,X` (R379). -/
def execLsrDpx (d : Byte) (s : State) : Result := .next (opShiftMem .lsr (.dpx d) s)

/-- 0x5E `LSR a,X` (R379). -/
def execLsrAbsx (a : Word) (s : State) : Result := .next (opShiftMem .lsr (.absx a) s)

/-- 0x26 `ROL d` (R380). -/
def execRolDp (d : Byte) (s : State) : Result := .next (opShiftMem .rol (.dp d) s)

/-- 0x2A `ROL A` (R380). -/
def execRolAcc (s : State) : Result := .next (opShiftA .rol s)

/-- 0x2E `ROL a` (R380). -/
def execRolAbs (a : Word) (s : State) : Result := .next (opShiftMem .rol (.abs a) s)

/-- 0x36 `ROL d,X` (R380). -/
def execRolDpx (d : Byte) (s : State) : Result := .next (opShiftMem .rol (.dpx d) s)

/-- 0x3E `ROL a,X` (R380). -/
def execRolAbsx (a : Word) (s : State) : Result := .next (opShiftMem .rol (.absx a) s)

/-- 0x66 `ROR d` (R381). -/
def execRorDp (d : Byte) (s : State) : Result := .next (opShiftMem .ror (.dp d) s)

/-- 0x6A `ROR A` (R381). -/
def execRorAcc (s : State) : Result := .next (opShiftA .ror s)

/-- 0x6E `ROR a` (R381). -/
def execRorAbs (a : Word) (s : State) : Result := .next (opShiftMem .ror (.abs a) s)

/-- 0x76 `ROR d,X` (R381). -/
def execRorDpx (d : Byte) (s : State) : Result := .next (opShiftMem .ror (.dpx d) s)

/-- 0x7E `ROR a,X` (R381). -/
def execRorAbsx (a : Word) (s : State) : Result := .next (opShiftMem .ror (.absx a) s)

end Sys2Proof.Machine
end

