-- ==== Sys2Proof/Machine/Stack.lean ====
section
/-! DEFINITION. Stack instructions (45_stack.md R450-R467). -/

namespace Sys2Proof.Machine

/-- PEI: the 16-bit pointer stored at the direct-page address is pushed (45_stack.md R459). -/
def opPei (d : Byte) (s : State) : State :=
  let r := readWord (.bank0 (directPage s.cpu d)) s
  push16 r.1 r.2

/-- PLA (R461). -/
def opPla (s : State) : State :=
  let r := pullW (wM s) s
  setNZ (wM s) r.1 (setA (wM s) r.1 r.2)

/-- PLX (R462). -/
def opPlx (s : State) : State :=
  let r := pullW (wX s) s
  setNZ (wX s) r.1 (setX (wX s) r.1 r.2)

/-- PLY (R463). -/
def opPly (s : State) : State :=
  let r := pullW (wX s) s
  setNZ (wX s) r.1 (setY (wX s) r.1 r.2)

/-- PLP (R464). -/
def opPlp (s : State) : State :=
  let r := pull8 s
  enforceModes (setP (Status.ofByte r.1) r.2)

/-- PLB (R465). -/
def opPlb (s : State) : State :=
  let r := pull8 s
  setNZ .w8 (zext r.1) (setDb r.1 r.2)

/-- PLD (R466). -/
def opPld (s : State) : State :=
  let r := pull16 s
  setNZ .w16 r.1 (setD r.1 r.2)

/-- 0x48 `PHA` (R451). -/
def execPha (s : State) : Result := .next (pushW (wM s) s.cpu.a s)

/-- 0xDA `PHX` (R452). -/
def execPhx (s : State) : Result := .next (pushW (wX s) s.cpu.x s)

/-- 0x5A `PHY` (R453). -/
def execPhy (s : State) : Result := .next (pushW (wX s) s.cpu.y s)

/-- 0x08 `PHP` (R454). -/
def execPhp (s : State) : Result := .next (push8 s.cpu.p.toByte s)

/-- 0x8B `PHB` (R455). -/
def execPhb (s : State) : Result := .next (push8 s.cpu.db s)

/-- 0x0B `PHD` (R456). -/
def execPhd (s : State) : Result := .next (push16 s.cpu.d s)

/-- 0x4B `PHK` (R457). -/
def execPhk (s : State) : Result := .next (push8 s.cpu.pb s)

/-- 0xF4 `PEA a` (R458). -/
def execPeaImm16 (c : Word) (s : State) : Result := .next (push16 c s)

/-- 0xD4 `PEI (d)` (R459). -/
def execPeiDpind (d : Byte) (s : State) : Result := .next (opPei d s)

/-- 0x62 `PER rl` (R460). -/
def execPerRell (r : Word) (s : State) : Result := .next (push16 (s.cpu.pc + r) s)

/-- 0x68 `PLA` (R461). -/
def execPla (s : State) : Result := .next (opPla s)

/-- 0xFA `PLX` (R462). -/
def execPlx (s : State) : Result := .next (opPlx s)

/-- 0x7A `PLY` (R463). -/
def execPly (s : State) : Result := .next (opPly s)

/-- 0x28 `PLP` (R464). -/
def execPlp (s : State) : Result := .next (opPlp s)

/-- 0xAB `PLB` (R465). -/
def execPlb (s : State) : Result := .next (opPlb s)

/-- 0x2B `PLD` (R466). -/
def execPld (s : State) : Result := .next (opPld s)

end Sys2Proof.Machine
end

