-- ==== Sys2Proof/Machine/System.lean ====
section
/-! DEFINITION. Flag operations, mode control and system instructions (46_flags_mode_system.md R490-R510). -/

namespace Sys2Proof.Machine

/-- REP: clear the bits of P that the operand names, then EnforceModes (46_flags_mode_system.md R497). -/
def opRep (c : Byte) (s : State) : State :=
  enforceModes (setP (Status.ofByte (s.cpu.p.toByte &&& ~~~c)) s)

/-- SEP: set the bits of P that the operand names, then EnforceModes (R498). -/
def opSep (c : Byte) (s : State) : State :=
  enforceModes (setP (Status.ofByte (s.cpu.p.toByte ||| c)) s)

/-- XCE: exchange C and E, then EnforceModes (R499). -/
def opXce (s : State) : State :=
  enforceModes { s with cpu := { s.cpu with e := s.cpu.p.c, p := { s.cpu.p with c := s.cpu.e } } }

/-- 0x18 `CLC` (R490). -/
def execClc (s : State) : Result := .next (setP { s.cpu.p with c := false } s)

/-- 0x38 `SEC` (R491). -/
def execSec (s : State) : Result := .next (setP { s.cpu.p with c := true } s)

/-- 0x58 `CLI` (R492). -/
def execCli (s : State) : Result := .next (setP { s.cpu.p with i := false } s)

/-- 0x78 `SEI` (R493). -/
def execSei (s : State) : Result := .next (setP { s.cpu.p with i := true } s)

/-- 0xD8 `CLD` (R494). -/
def execCld (s : State) : Result := .next (setP { s.cpu.p with d := false } s)

/-- 0xF8 `SED` (R495). -/
def execSed (s : State) : Result := .next (setP { s.cpu.p with d := true } s)

/-- 0xB8 `CLV` (R496). -/
def execClv (s : State) : Result := .next (setP { s.cpu.p with v := false } s)

/-- 0xC2 `REP #c` (R497). -/
def execRepImm (c : Byte) (s : State) : Result := .next (opRep c s)

/-- 0xE2 `SEP #c` (R498). -/
def execSepImm (c : Byte) (s : State) : Result := .next (opSep c s)

/-- 0xFB `XCE` (R499). -/
def execXce (s : State) : Result := .next (opXce s)

/-- 0xEA `NOP` (R500). -/
def execNop (s : State) : Result := .next (s)

/-- 0x42 `WDM sig` (R501). -/
def execWdmSig (_sig : Byte) (s : State) : Result := .next (s)

/-- 0x00 `BRK sig` (R502). -/
def execBrkSig (_sig : Byte) (s : State) : Result := .next (raiseInterrupt .brk s)

/-- 0x02 `COP sig` (R503). -/
def execCopSig (_sig : Byte) (s : State) : Result := .next (raiseInterrupt .cop s)

/-- 0x40 `RTI` (R507). -/
def execRti (s : State) : Result := .next (returnFromInterrupt s)

/-- 0xCB `WAI` (R509). -/
def execWai (s : State) : Result := .next ({ s with cpu := { s.cpu with waiting := true } })

/-- 0xDB `STP` (R510). -/
def execStp (s : State) : Result := .next ({ s with cpu := { s.cpu with stopped := true } })

end Sys2Proof.Machine
end

