-- ==== Sys2Proof/Machine/Transfer.lean ====
section
/-! DEFINITION. Register transfers and exchange (41_transfer_exchange.md R300-R313). -/

namespace Sys2Proof.Machine

/-- A transfer into A at the width of A (41_transfer_exchange.md R300, R303, R304). -/
def transferToA (v : Word) (s : State) : State :=
  let v := (wM s).trunc v
  setNZ (wM s) v (setA (wM s) v s)

/-- A transfer into X at the width of X (R300, R301, R306, R307). -/
def transferToX (v : Word) (s : State) : State :=
  let v := (wX s).trunc v
  setNZ (wX s) v (setX (wX s) v s)

/-- A transfer into Y at the width of Y (R300, R302, R305). -/
def transferToY (v : Word) (s : State) : State :=
  let v := (wX s).trunc v
  setNZ (wX s) v (setY (wX s) v s)

/-- 0xAA `TAX` (R301). -/
def execTax (s : State) : Result := .next (transferToX s.cpu.a s)

/-- 0xA8 `TAY` (R302). -/
def execTay (s : State) : Result := .next (transferToY s.cpu.a s)

/-- 0x8A `TXA` (R303). -/
def execTxa (s : State) : Result := .next (transferToA s.cpu.x s)

/-- 0x98 `TYA` (R304). -/
def execTya (s : State) : Result := .next (transferToA s.cpu.y s)

/-- 0x9B `TXY` (R305). -/
def execTxy (s : State) : Result := .next (transferToY s.cpu.x s)

/-- 0xBB `TYX` (R306). -/
def execTyx (s : State) : Result := .next (transferToX s.cpu.y s)

/-- 0xBA `TSX` (R307). -/
def execTsx (s : State) : Result := .next (transferToX s.cpu.s s)

/-- 0x9A `TXS` (R308). -/
def execTxs (s : State) : Result := .next (setS s.cpu.x s)

/-- 0x1B `TCS` (R309). -/
def execTcs (s : State) : Result := .next (setS s.cpu.a s)

/-- 0x3B `TSC` (R310). -/
def execTsc (s : State) : Result := .next (setNZ .w16 s.cpu.s (setA .w16 s.cpu.s s))

/-- 0x5B `TCD` (R311). -/
def execTcd (s : State) : Result := .next (setNZ .w16 s.cpu.a (setD s.cpu.a s))

/-- 0x7B `TDC` (R312). -/
def execTdc (s : State) : Result := .next (setNZ .w16 s.cpu.d (setA .w16 s.cpu.d s))

/-- 0xEB `XBA` (R313). -/
def execXba (s : State) : Result := .next (setNZ .w8 (zext (highByte s.cpu.a)) (setA .w16 (wordOf (highByte s.cpu.a) (lowByte s.cpu.a)) s))

end Sys2Proof.Machine
end

