-- ==== Sys2Proof/Syntax.lean ====
section
/-! DEFINITION. The instructions: one constructor per row of spec/opcode_table.json (30_encoding.md R205): first the
rows with operand bytes in the table's order, then the rows without. A constructor's arguments are the operand bytes of its format (R202), assembled little-endian (R201).

An immediate whose length follows P.M or P.X (`immM`, `immX`, R204) is held as a 16-bit value; with an 8-bit width only values
below 0x100 are well formed (WellFormed.lean). A relative operand is held as its raw byte or word and sign-extended where it is
used. -/

namespace Sys2Proof

inductive Instr where
  /-- 0x00 `BRK sig`, R502. -/
  | brkSig (sig : Byte)
  /-- 0x01 `ORA (d,X)`, R371. -/
  | oraDpxind (d : Byte)
  /-- 0x02 `COP sig`, R503. -/
  | copSig (sig : Byte)
  /-- 0x03 `ORA d,S`, R371. -/
  | oraSr (d : Byte)
  /-- 0x04 `TSB d`, R375. -/
  | tsbDp (d : Byte)
  /-- 0x05 `ORA d`, R371. -/
  | oraDp (d : Byte)
  /-- 0x06 `ASL d`, R378. -/
  | aslDp (d : Byte)
  /-- 0x07 `ORA [d]`, R371. -/
  | oraDpindl (d : Byte)
  /-- 0x09 `ORA #c`, R371. -/
  | oraImm (c : Word)
  /-- 0x0C `TSB a`, R375. -/
  | tsbAbs (a : Word)
  /-- 0x0D `ORA a`, R371. -/
  | oraAbs (a : Word)
  /-- 0x0E `ASL a`, R378. -/
  | aslAbs (a : Word)
  /-- 0x0F `ORA al`, R371. -/
  | oraLong (al : Addr)
  /-- 0x10 `BPL r`, R411. -/
  | bplRel (r : Byte)
  /-- 0x11 `ORA (d),Y`, R371. -/
  | oraDpindy (d : Byte)
  /-- 0x12 `ORA (d)`, R371. -/
  | oraDpind (d : Byte)
  /-- 0x13 `ORA (d,S),Y`, R371. -/
  | oraSriy (d : Byte)
  /-- 0x14 `TRB d`, R376. -/
  | trbDp (d : Byte)
  /-- 0x15 `ORA d,X`, R371. -/
  | oraDpx (d : Byte)
  /-- 0x16 `ASL d,X`, R378. -/
  | aslDpx (d : Byte)
  /-- 0x17 `ORA [d],Y`, R371. -/
  | oraDpindly (d : Byte)
  /-- 0x19 `ORA a,Y`, R371. -/
  | oraAbsy (a : Word)
  /-- 0x1C `TRB a`, R376. -/
  | trbAbs (a : Word)
  /-- 0x1D `ORA a,X`, R371. -/
  | oraAbsx (a : Word)
  /-- 0x1E `ASL a,X`, R378. -/
  | aslAbsx (a : Word)
  /-- 0x1F `ORA al,X`, R371. -/
  | oraLongx (al : Addr)
  /-- 0x20 `JSR a`, R426. -/
  | jsrAbs (a : Word)
  /-- 0x21 `AND (d,X)`, R370. -/
  | andDpxind (d : Byte)
  /-- 0x22 `JSL al`, R428. -/
  | jslLong (al : Addr)
  /-- 0x23 `AND d,S`, R370. -/
  | andSr (d : Byte)
  /-- 0x24 `BIT d`, R373. -/
  | bitDp (d : Byte)
  /-- 0x25 `AND d`, R370. -/
  | andDp (d : Byte)
  /-- 0x26 `ROL d`, R380. -/
  | rolDp (d : Byte)
  /-- 0x27 `AND [d]`, R370. -/
  | andDpindl (d : Byte)
  /-- 0x29 `AND #c`, R370. -/
  | andImm (c : Word)
  /-- 0x2C `BIT a`, R373. -/
  | bitAbs (a : Word)
  /-- 0x2D `AND a`, R370. -/
  | andAbs (a : Word)
  /-- 0x2E `ROL a`, R380. -/
  | rolAbs (a : Word)
  /-- 0x2F `AND al`, R370. -/
  | andLong (al : Addr)
  /-- 0x30 `BMI r`, R412. -/
  | bmiRel (r : Byte)
  /-- 0x31 `AND (d),Y`, R370. -/
  | andDpindy (d : Byte)
  /-- 0x32 `AND (d)`, R370. -/
  | andDpind (d : Byte)
  /-- 0x33 `AND (d,S),Y`, R370. -/
  | andSriy (d : Byte)
  /-- 0x34 `BIT d,X`, R373. -/
  | bitDpx (d : Byte)
  /-- 0x35 `AND d,X`, R370. -/
  | andDpx (d : Byte)
  /-- 0x36 `ROL d,X`, R380. -/
  | rolDpx (d : Byte)
  /-- 0x37 `AND [d],Y`, R370. -/
  | andDpindly (d : Byte)
  /-- 0x39 `AND a,Y`, R370. -/
  | andAbsy (a : Word)
  /-- 0x3C `BIT a,X`, R373. -/
  | bitAbsx (a : Word)
  /-- 0x3D `AND a,X`, R370. -/
  | andAbsx (a : Word)
  /-- 0x3E `ROL a,X`, R380. -/
  | rolAbsx (a : Word)
  /-- 0x3F `AND al,X`, R370. -/
  | andLongx (al : Addr)
  /-- 0x41 `EOR (d,X)`, R372. -/
  | eorDpxind (d : Byte)
  /-- 0x42 `WDM sig`, R501. -/
  | wdmSig (sig : Byte)
  /-- 0x43 `EOR d,S`, R372. -/
  | eorSr (d : Byte)
  /-- 0x44 `MVP s,d`, R531. -/
  | mvpBm (dst : Byte) (src : Byte)
  /-- 0x45 `EOR d`, R372. -/
  | eorDp (d : Byte)
  /-- 0x46 `LSR d`, R379. -/
  | lsrDp (d : Byte)
  /-- 0x47 `EOR [d]`, R372. -/
  | eorDpindl (d : Byte)
  /-- 0x49 `EOR #c`, R372. -/
  | eorImm (c : Word)
  /-- 0x4C `JMP a`, R421. -/
  | jmpAbs (a : Word)
  /-- 0x4D `EOR a`, R372. -/
  | eorAbs (a : Word)
  /-- 0x4E `LSR a`, R379. -/
  | lsrAbs (a : Word)
  /-- 0x4F `EOR al`, R372. -/
  | eorLong (al : Addr)
  /-- 0x50 `BVC r`, R413. -/
  | bvcRel (r : Byte)
  /-- 0x51 `EOR (d),Y`, R372. -/
  | eorDpindy (d : Byte)
  /-- 0x52 `EOR (d)`, R372. -/
  | eorDpind (d : Byte)
  /-- 0x53 `EOR (d,S),Y`, R372. -/
  | eorSriy (d : Byte)
  /-- 0x54 `MVN s,d`, R530. -/
  | mvnBm (dst : Byte) (src : Byte)
  /-- 0x55 `EOR d,X`, R372. -/
  | eorDpx (d : Byte)
  /-- 0x56 `LSR d,X`, R379. -/
  | lsrDpx (d : Byte)
  /-- 0x57 `EOR [d],Y`, R372. -/
  | eorDpindly (d : Byte)
  /-- 0x59 `EOR a,Y`, R372. -/
  | eorAbsy (a : Word)
  /-- 0x5C `JML al`, R424. -/
  | jmlLong (al : Addr)
  /-- 0x5D `EOR a,X`, R372. -/
  | eorAbsx (a : Word)
  /-- 0x5E `LSR a,X`, R379. -/
  | lsrAbsx (a : Word)
  /-- 0x5F `EOR al,X`, R372. -/
  | eorLongx (al : Addr)
  /-- 0x61 `ADC (d,X)`, R332. -/
  | adcDpxind (d : Byte)
  /-- 0x62 `PER rl`, R460. -/
  | perRell (r : Word)
  /-- 0x63 `ADC d,S`, R332. -/
  | adcSr (d : Byte)
  /-- 0x64 `STZ d`, R276. -/
  | stzDp (d : Byte)
  /-- 0x65 `ADC d`, R332. -/
  | adcDp (d : Byte)
  /-- 0x66 `ROR d`, R381. -/
  | rorDp (d : Byte)
  /-- 0x67 `ADC [d]`, R332. -/
  | adcDpindl (d : Byte)
  /-- 0x69 `ADC #c`, R332. -/
  | adcImm (c : Word)
  /-- 0x6C `JMP (a)`, R422. -/
  | jmpAbsind (a : Word)
  /-- 0x6D `ADC a`, R332. -/
  | adcAbs (a : Word)
  /-- 0x6E `ROR a`, R381. -/
  | rorAbs (a : Word)
  /-- 0x6F `ADC al`, R332. -/
  | adcLong (al : Addr)
  /-- 0x70 `BVS r`, R414. -/
  | bvsRel (r : Byte)
  /-- 0x71 `ADC (d),Y`, R332. -/
  | adcDpindy (d : Byte)
  /-- 0x72 `ADC (d)`, R332. -/
  | adcDpind (d : Byte)
  /-- 0x73 `ADC (d,S),Y`, R332. -/
  | adcSriy (d : Byte)
  /-- 0x74 `STZ d,X`, R276. -/
  | stzDpx (d : Byte)
  /-- 0x75 `ADC d,X`, R332. -/
  | adcDpx (d : Byte)
  /-- 0x76 `ROR d,X`, R381. -/
  | rorDpx (d : Byte)
  /-- 0x77 `ADC [d],Y`, R332. -/
  | adcDpindly (d : Byte)
  /-- 0x79 `ADC a,Y`, R332. -/
  | adcAbsy (a : Word)
  /-- 0x7C `JMP (a,X)`, R423. -/
  | jmpAbsxind (a : Word)
  /-- 0x7D `ADC a,X`, R332. -/
  | adcAbsx (a : Word)
  /-- 0x7E `ROR a,X`, R381. -/
  | rorAbsx (a : Word)
  /-- 0x7F `ADC al,X`, R332. -/
  | adcLongx (al : Addr)
  /-- 0x80 `BRA r`, R419. -/
  | braRel (r : Byte)
  /-- 0x81 `STA (d,X)`, R273. -/
  | staDpxind (d : Byte)
  /-- 0x82 `BRL rl`, R420. -/
  | brlRell (r : Word)
  /-- 0x83 `STA d,S`, R273. -/
  | staSr (d : Byte)
  /-- 0x84 `STY d`, R275. -/
  | styDp (d : Byte)
  /-- 0x85 `STA d`, R273. -/
  | staDp (d : Byte)
  /-- 0x86 `STX d`, R274. -/
  | stxDp (d : Byte)
  /-- 0x87 `STA [d]`, R273. -/
  | staDpindl (d : Byte)
  /-- 0x89 `BIT #c`, R374. -/
  | bitImm (c : Word)
  /-- 0x8C `STY a`, R275. -/
  | styAbs (a : Word)
  /-- 0x8D `STA a`, R273. -/
  | staAbs (a : Word)
  /-- 0x8E `STX a`, R274. -/
  | stxAbs (a : Word)
  /-- 0x8F `STA al`, R273. -/
  | staLong (al : Addr)
  /-- 0x90 `BCC r`, R415. -/
  | bccRel (r : Byte)
  /-- 0x91 `STA (d),Y`, R273. -/
  | staDpindy (d : Byte)
  /-- 0x92 `STA (d)`, R273. -/
  | staDpind (d : Byte)
  /-- 0x93 `STA (d,S),Y`, R273. -/
  | staSriy (d : Byte)
  /-- 0x94 `STY d,X`, R275. -/
  | styDpx (d : Byte)
  /-- 0x95 `STA d,X`, R273. -/
  | staDpx (d : Byte)
  /-- 0x96 `STX d,Y`, R274. -/
  | stxDpy (d : Byte)
  /-- 0x97 `STA [d],Y`, R273. -/
  | staDpindly (d : Byte)
  /-- 0x99 `STA a,Y`, R273. -/
  | staAbsy (a : Word)
  /-- 0x9C `STZ a`, R276. -/
  | stzAbs (a : Word)
  /-- 0x9D `STA a,X`, R273. -/
  | staAbsx (a : Word)
  /-- 0x9E `STZ a,X`, R276. -/
  | stzAbsx (a : Word)
  /-- 0x9F `STA al,X`, R273. -/
  | staLongx (al : Addr)
  /-- 0xA0 `LDY #c`, R272. -/
  | ldyImm (c : Word)
  /-- 0xA1 `LDA (d,X)`, R270. -/
  | ldaDpxind (d : Byte)
  /-- 0xA2 `LDX #c`, R271. -/
  | ldxImm (c : Word)
  /-- 0xA3 `LDA d,S`, R270. -/
  | ldaSr (d : Byte)
  /-- 0xA4 `LDY d`, R272. -/
  | ldyDp (d : Byte)
  /-- 0xA5 `LDA d`, R270. -/
  | ldaDp (d : Byte)
  /-- 0xA6 `LDX d`, R271. -/
  | ldxDp (d : Byte)
  /-- 0xA7 `LDA [d]`, R270. -/
  | ldaDpindl (d : Byte)
  /-- 0xA9 `LDA #c`, R270. -/
  | ldaImm (c : Word)
  /-- 0xAC `LDY a`, R272. -/
  | ldyAbs (a : Word)
  /-- 0xAD `LDA a`, R270. -/
  | ldaAbs (a : Word)
  /-- 0xAE `LDX a`, R271. -/
  | ldxAbs (a : Word)
  /-- 0xAF `LDA al`, R270. -/
  | ldaLong (al : Addr)
  /-- 0xB0 `BCS r`, R416. -/
  | bcsRel (r : Byte)
  /-- 0xB1 `LDA (d),Y`, R270. -/
  | ldaDpindy (d : Byte)
  /-- 0xB2 `LDA (d)`, R270. -/
  | ldaDpind (d : Byte)
  /-- 0xB3 `LDA (d,S),Y`, R270. -/
  | ldaSriy (d : Byte)
  /-- 0xB4 `LDY d,X`, R272. -/
  | ldyDpx (d : Byte)
  /-- 0xB5 `LDA d,X`, R270. -/
  | ldaDpx (d : Byte)
  /-- 0xB6 `LDX d,Y`, R271. -/
  | ldxDpy (d : Byte)
  /-- 0xB7 `LDA [d],Y`, R270. -/
  | ldaDpindly (d : Byte)
  /-- 0xB9 `LDA a,Y`, R270. -/
  | ldaAbsy (a : Word)
  /-- 0xBC `LDY a,X`, R272. -/
  | ldyAbsx (a : Word)
  /-- 0xBD `LDA a,X`, R270. -/
  | ldaAbsx (a : Word)
  /-- 0xBE `LDX a,Y`, R271. -/
  | ldxAbsy (a : Word)
  /-- 0xBF `LDA al,X`, R270. -/
  | ldaLongx (al : Addr)
  /-- 0xC0 `CPY #c`, R336. -/
  | cpyImm (c : Word)
  /-- 0xC1 `CMP (d,X)`, R334. -/
  | cmpDpxind (d : Byte)
  /-- 0xC2 `REP #c`, R497. -/
  | repImm (c : Byte)
  /-- 0xC3 `CMP d,S`, R334. -/
  | cmpSr (d : Byte)
  /-- 0xC4 `CPY d`, R336. -/
  | cpyDp (d : Byte)
  /-- 0xC5 `CMP d`, R334. -/
  | cmpDp (d : Byte)
  /-- 0xC6 `DEC d`, R340. -/
  | decDp (d : Byte)
  /-- 0xC7 `CMP [d]`, R334. -/
  | cmpDpindl (d : Byte)
  /-- 0xC9 `CMP #c`, R334. -/
  | cmpImm (c : Word)
  /-- 0xCC `CPY a`, R336. -/
  | cpyAbs (a : Word)
  /-- 0xCD `CMP a`, R334. -/
  | cmpAbs (a : Word)
  /-- 0xCE `DEC a`, R340. -/
  | decAbs (a : Word)
  /-- 0xCF `CMP al`, R334. -/
  | cmpLong (al : Addr)
  /-- 0xD0 `BNE r`, R417. -/
  | bneRel (r : Byte)
  /-- 0xD1 `CMP (d),Y`, R334. -/
  | cmpDpindy (d : Byte)
  /-- 0xD2 `CMP (d)`, R334. -/
  | cmpDpind (d : Byte)
  /-- 0xD3 `CMP (d,S),Y`, R334. -/
  | cmpSriy (d : Byte)
  /-- 0xD4 `PEI (d)`, R459. -/
  | peiDpind (d : Byte)
  /-- 0xD5 `CMP d,X`, R334. -/
  | cmpDpx (d : Byte)
  /-- 0xD6 `DEC d,X`, R340. -/
  | decDpx (d : Byte)
  /-- 0xD7 `CMP [d],Y`, R334. -/
  | cmpDpindly (d : Byte)
  /-- 0xD9 `CMP a,Y`, R334. -/
  | cmpAbsy (a : Word)
  /-- 0xDC `JML [a]`, R425. -/
  | jmlAbsindl (a : Word)
  /-- 0xDD `CMP a,X`, R334. -/
  | cmpAbsx (a : Word)
  /-- 0xDE `DEC a,X`, R340. -/
  | decAbsx (a : Word)
  /-- 0xDF `CMP al,X`, R334. -/
  | cmpLongx (al : Addr)
  /-- 0xE0 `CPX #c`, R335. -/
  | cpxImm (c : Word)
  /-- 0xE1 `SBC (d,X)`, R333. -/
  | sbcDpxind (d : Byte)
  /-- 0xE2 `SEP #c`, R498. -/
  | sepImm (c : Byte)
  /-- 0xE3 `SBC d,S`, R333. -/
  | sbcSr (d : Byte)
  /-- 0xE4 `CPX d`, R335. -/
  | cpxDp (d : Byte)
  /-- 0xE5 `SBC d`, R333. -/
  | sbcDp (d : Byte)
  /-- 0xE6 `INC d`, R338. -/
  | incDp (d : Byte)
  /-- 0xE7 `SBC [d]`, R333. -/
  | sbcDpindl (d : Byte)
  /-- 0xE9 `SBC #c`, R333. -/
  | sbcImm (c : Word)
  /-- 0xEC `CPX a`, R335. -/
  | cpxAbs (a : Word)
  /-- 0xED `SBC a`, R333. -/
  | sbcAbs (a : Word)
  /-- 0xEE `INC a`, R338. -/
  | incAbs (a : Word)
  /-- 0xEF `SBC al`, R333. -/
  | sbcLong (al : Addr)
  /-- 0xF0 `BEQ r`, R418. -/
  | beqRel (r : Byte)
  /-- 0xF1 `SBC (d),Y`, R333. -/
  | sbcDpindy (d : Byte)
  /-- 0xF2 `SBC (d)`, R333. -/
  | sbcDpind (d : Byte)
  /-- 0xF3 `SBC (d,S),Y`, R333. -/
  | sbcSriy (d : Byte)
  /-- 0xF4 `PEA a`, R458. -/
  | peaImm16 (c : Word)
  /-- 0xF5 `SBC d,X`, R333. -/
  | sbcDpx (d : Byte)
  /-- 0xF6 `INC d,X`, R338. -/
  | incDpx (d : Byte)
  /-- 0xF7 `SBC [d],Y`, R333. -/
  | sbcDpindly (d : Byte)
  /-- 0xF9 `SBC a,Y`, R333. -/
  | sbcAbsy (a : Word)
  /-- 0xFC `JSR (a,X)`, R427. -/
  | jsrAbsxind (a : Word)
  /-- 0xFD `SBC a,X`, R333. -/
  | sbcAbsx (a : Word)
  /-- 0xFE `INC a,X`, R338. -/
  | incAbsx (a : Word)
  /-- 0xFF `SBC al,X`, R333. -/
  | sbcLongx (al : Addr)
  /-- 0x08 `PHP`, R454. -/
  | php
  /-- 0x0A `ASL A`, R378. -/
  | aslAcc
  /-- 0x0B `PHD`, R456. -/
  | phd
  /-- 0x18 `CLC`, R490. -/
  | clc
  /-- 0x1A `INC A`, R337. -/
  | incAcc
  /-- 0x1B `TCS`, R309. -/
  | tcs
  /-- 0x28 `PLP`, R464. -/
  | plp
  /-- 0x2A `ROL A`, R380. -/
  | rolAcc
  /-- 0x2B `PLD`, R466. -/
  | pld
  /-- 0x38 `SEC`, R491. -/
  | sec
  /-- 0x3A `DEC A`, R339. -/
  | decAcc
  /-- 0x3B `TSC`, R310. -/
  | tsc
  /-- 0x40 `RTI`, R507. -/
  | rti
  /-- 0x48 `PHA`, R451. -/
  | pha
  /-- 0x4A `LSR A`, R379. -/
  | lsrAcc
  /-- 0x4B `PHK`, R457. -/
  | phk
  /-- 0x58 `CLI`, R492. -/
  | cli
  /-- 0x5A `PHY`, R453. -/
  | phy
  /-- 0x5B `TCD`, R311. -/
  | tcd
  /-- 0x60 `RTS`, R429. -/
  | rts
  /-- 0x68 `PLA`, R461. -/
  | pla
  /-- 0x6A `ROR A`, R381. -/
  | rorAcc
  /-- 0x6B `RTL`, R430. -/
  | rtl
  /-- 0x78 `SEI`, R493. -/
  | sei
  /-- 0x7A `PLY`, R463. -/
  | ply
  /-- 0x7B `TDC`, R312. -/
  | tdc
  /-- 0x88 `DEY`, R344. -/
  | dey
  /-- 0x8A `TXA`, R303. -/
  | txa
  /-- 0x8B `PHB`, R455. -/
  | phb
  /-- 0x98 `TYA`, R304. -/
  | tya
  /-- 0x9A `TXS`, R308. -/
  | txs
  /-- 0x9B `TXY`, R305. -/
  | txy
  /-- 0xA8 `TAY`, R302. -/
  | tay
  /-- 0xAA `TAX`, R301. -/
  | tax
  /-- 0xAB `PLB`, R465. -/
  | plb
  /-- 0xB8 `CLV`, R496. -/
  | clv
  /-- 0xBA `TSX`, R307. -/
  | tsx
  /-- 0xBB `TYX`, R306. -/
  | tyx
  /-- 0xC8 `INY`, R342. -/
  | iny
  /-- 0xCA `DEX`, R343. -/
  | dex
  /-- 0xCB `WAI`, R509. -/
  | wai
  /-- 0xD8 `CLD`, R494. -/
  | cld
  /-- 0xDA `PHX`, R452. -/
  | phx
  /-- 0xDB `STP`, R510. -/
  | stp
  /-- 0xE8 `INX`, R341. -/
  | inx
  /-- 0xEA `NOP`, R500. -/
  | nop
  /-- 0xEB `XBA`, R313. -/
  | xba
  /-- 0xF8 `SED`, R495. -/
  | sed
  /-- 0xFA `PLX`, R462. -/
  | plx
  /-- 0xFB `XCE`, R499. -/
  | xce
  deriving DecidableEq, Repr

end Sys2Proof
end

