-- ==== Sys2Proof/Machine/Dispatch.lean ====
section
/-! DEFINITION. What each instruction does to a state whose PC already points past its bytes (30_encoding.md R213): one arm per
constructor. -/

namespace Sys2Proof.Machine

def exec (i : Instr) (s : State) : Host.Outcome State Fault Refusal :=
  match i with
  | .brkSig sig => Sys2Proof.Machine.execBrkSig sig s
  | .oraDpxind d => Sys2Proof.Machine.execOraDpxind d s
  | .copSig sig => Sys2Proof.Machine.execCopSig sig s
  | .oraSr d => Sys2Proof.Machine.execOraSr d s
  | .tsbDp d => Sys2Proof.Machine.execTsbDp d s
  | .oraDp d => Sys2Proof.Machine.execOraDp d s
  | .aslDp d => Sys2Proof.Machine.execAslDp d s
  | .oraDpindl d => Sys2Proof.Machine.execOraDpindl d s
  | .php => Sys2Proof.Machine.execPhp s
  | .oraImm c => Sys2Proof.Machine.execOraImm c s
  | .aslAcc => Sys2Proof.Machine.execAslAcc s
  | .phd => Sys2Proof.Machine.execPhd s
  | .tsbAbs a => Sys2Proof.Machine.execTsbAbs a s
  | .oraAbs a => Sys2Proof.Machine.execOraAbs a s
  | .aslAbs a => Sys2Proof.Machine.execAslAbs a s
  | .oraLong al => Sys2Proof.Machine.execOraLong al s
  | .bplRel r => Sys2Proof.Machine.execBplRel r s
  | .oraDpindy d => Sys2Proof.Machine.execOraDpindy d s
  | .oraDpind d => Sys2Proof.Machine.execOraDpind d s
  | .oraSriy d => Sys2Proof.Machine.execOraSriy d s
  | .trbDp d => Sys2Proof.Machine.execTrbDp d s
  | .oraDpx d => Sys2Proof.Machine.execOraDpx d s
  | .aslDpx d => Sys2Proof.Machine.execAslDpx d s
  | .oraDpindly d => Sys2Proof.Machine.execOraDpindly d s
  | .clc => Sys2Proof.Machine.execClc s
  | .oraAbsy a => Sys2Proof.Machine.execOraAbsy a s
  | .incAcc => Sys2Proof.Machine.execIncAcc s
  | .tcs => Sys2Proof.Machine.execTcs s
  | .trbAbs a => Sys2Proof.Machine.execTrbAbs a s
  | .oraAbsx a => Sys2Proof.Machine.execOraAbsx a s
  | .aslAbsx a => Sys2Proof.Machine.execAslAbsx a s
  | .oraLongx al => Sys2Proof.Machine.execOraLongx al s
  | .jsrAbs a => Sys2Proof.Machine.execJsrAbs a s
  | .andDpxind d => Sys2Proof.Machine.execAndDpxind d s
  | .jslLong al => Sys2Proof.Machine.execJslLong al s
  | .andSr d => Sys2Proof.Machine.execAndSr d s
  | .bitDp d => Sys2Proof.Machine.execBitDp d s
  | .andDp d => Sys2Proof.Machine.execAndDp d s
  | .rolDp d => Sys2Proof.Machine.execRolDp d s
  | .andDpindl d => Sys2Proof.Machine.execAndDpindl d s
  | .plp => Sys2Proof.Machine.execPlp s
  | .andImm c => Sys2Proof.Machine.execAndImm c s
  | .rolAcc => Sys2Proof.Machine.execRolAcc s
  | .pld => Sys2Proof.Machine.execPld s
  | .bitAbs a => Sys2Proof.Machine.execBitAbs a s
  | .andAbs a => Sys2Proof.Machine.execAndAbs a s
  | .rolAbs a => Sys2Proof.Machine.execRolAbs a s
  | .andLong al => Sys2Proof.Machine.execAndLong al s
  | .bmiRel r => Sys2Proof.Machine.execBmiRel r s
  | .andDpindy d => Sys2Proof.Machine.execAndDpindy d s
  | .andDpind d => Sys2Proof.Machine.execAndDpind d s
  | .andSriy d => Sys2Proof.Machine.execAndSriy d s
  | .bitDpx d => Sys2Proof.Machine.execBitDpx d s
  | .andDpx d => Sys2Proof.Machine.execAndDpx d s
  | .rolDpx d => Sys2Proof.Machine.execRolDpx d s
  | .andDpindly d => Sys2Proof.Machine.execAndDpindly d s
  | .sec => Sys2Proof.Machine.execSec s
  | .andAbsy a => Sys2Proof.Machine.execAndAbsy a s
  | .decAcc => Sys2Proof.Machine.execDecAcc s
  | .tsc => Sys2Proof.Machine.execTsc s
  | .bitAbsx a => Sys2Proof.Machine.execBitAbsx a s
  | .andAbsx a => Sys2Proof.Machine.execAndAbsx a s
  | .rolAbsx a => Sys2Proof.Machine.execRolAbsx a s
  | .andLongx al => Sys2Proof.Machine.execAndLongx al s
  | .rti => Sys2Proof.Machine.execRti s
  | .eorDpxind d => Sys2Proof.Machine.execEorDpxind d s
  | .wdmSig sig => Sys2Proof.Machine.execWdmSig sig s
  | .eorSr d => Sys2Proof.Machine.execEorSr d s
  | .mvpBm dst src => Sys2Proof.Machine.execMvpBm dst src s
  | .eorDp d => Sys2Proof.Machine.execEorDp d s
  | .lsrDp d => Sys2Proof.Machine.execLsrDp d s
  | .eorDpindl d => Sys2Proof.Machine.execEorDpindl d s
  | .pha => Sys2Proof.Machine.execPha s
  | .eorImm c => Sys2Proof.Machine.execEorImm c s
  | .lsrAcc => Sys2Proof.Machine.execLsrAcc s
  | .phk => Sys2Proof.Machine.execPhk s
  | .jmpAbs a => Sys2Proof.Machine.execJmpAbs a s
  | .eorAbs a => Sys2Proof.Machine.execEorAbs a s
  | .lsrAbs a => Sys2Proof.Machine.execLsrAbs a s
  | .eorLong al => Sys2Proof.Machine.execEorLong al s
  | .bvcRel r => Sys2Proof.Machine.execBvcRel r s
  | .eorDpindy d => Sys2Proof.Machine.execEorDpindy d s
  | .eorDpind d => Sys2Proof.Machine.execEorDpind d s
  | .eorSriy d => Sys2Proof.Machine.execEorSriy d s
  | .mvnBm dst src => Sys2Proof.Machine.execMvnBm dst src s
  | .eorDpx d => Sys2Proof.Machine.execEorDpx d s
  | .lsrDpx d => Sys2Proof.Machine.execLsrDpx d s
  | .eorDpindly d => Sys2Proof.Machine.execEorDpindly d s
  | .cli => Sys2Proof.Machine.execCli s
  | .eorAbsy a => Sys2Proof.Machine.execEorAbsy a s
  | .phy => Sys2Proof.Machine.execPhy s
  | .tcd => Sys2Proof.Machine.execTcd s
  | .jmlLong al => Sys2Proof.Machine.execJmlLong al s
  | .eorAbsx a => Sys2Proof.Machine.execEorAbsx a s
  | .lsrAbsx a => Sys2Proof.Machine.execLsrAbsx a s
  | .eorLongx al => Sys2Proof.Machine.execEorLongx al s
  | .rts => Sys2Proof.Machine.execRts s
  | .adcDpxind d => Sys2Proof.Machine.execAdcDpxind d s
  | .perRell r => Sys2Proof.Machine.execPerRell r s
  | .adcSr d => Sys2Proof.Machine.execAdcSr d s
  | .stzDp d => Sys2Proof.Machine.execStzDp d s
  | .adcDp d => Sys2Proof.Machine.execAdcDp d s
  | .rorDp d => Sys2Proof.Machine.execRorDp d s
  | .adcDpindl d => Sys2Proof.Machine.execAdcDpindl d s
  | .pla => Sys2Proof.Machine.execPla s
  | .adcImm c => Sys2Proof.Machine.execAdcImm c s
  | .rorAcc => Sys2Proof.Machine.execRorAcc s
  | .rtl => Sys2Proof.Machine.execRtl s
  | .jmpAbsind a => Sys2Proof.Machine.execJmpAbsind a s
  | .adcAbs a => Sys2Proof.Machine.execAdcAbs a s
  | .rorAbs a => Sys2Proof.Machine.execRorAbs a s
  | .adcLong al => Sys2Proof.Machine.execAdcLong al s
  | .bvsRel r => Sys2Proof.Machine.execBvsRel r s
  | .adcDpindy d => Sys2Proof.Machine.execAdcDpindy d s
  | .adcDpind d => Sys2Proof.Machine.execAdcDpind d s
  | .adcSriy d => Sys2Proof.Machine.execAdcSriy d s
  | .stzDpx d => Sys2Proof.Machine.execStzDpx d s
  | .adcDpx d => Sys2Proof.Machine.execAdcDpx d s
  | .rorDpx d => Sys2Proof.Machine.execRorDpx d s
  | .adcDpindly d => Sys2Proof.Machine.execAdcDpindly d s
  | .sei => Sys2Proof.Machine.execSei s
  | .adcAbsy a => Sys2Proof.Machine.execAdcAbsy a s
  | .ply => Sys2Proof.Machine.execPly s
  | .tdc => Sys2Proof.Machine.execTdc s
  | .jmpAbsxind a => Sys2Proof.Machine.execJmpAbsxind a s
  | .adcAbsx a => Sys2Proof.Machine.execAdcAbsx a s
  | .rorAbsx a => Sys2Proof.Machine.execRorAbsx a s
  | .adcLongx al => Sys2Proof.Machine.execAdcLongx al s
  | .braRel r => Sys2Proof.Machine.execBraRel r s
  | .staDpxind d => Sys2Proof.Machine.execStaDpxind d s
  | .brlRell r => Sys2Proof.Machine.execBrlRell r s
  | .staSr d => Sys2Proof.Machine.execStaSr d s
  | .styDp d => Sys2Proof.Machine.execStyDp d s
  | .staDp d => Sys2Proof.Machine.execStaDp d s
  | .stxDp d => Sys2Proof.Machine.execStxDp d s
  | .staDpindl d => Sys2Proof.Machine.execStaDpindl d s
  | .dey => Sys2Proof.Machine.execDey s
  | .bitImm c => Sys2Proof.Machine.execBitImm c s
  | .txa => Sys2Proof.Machine.execTxa s
  | .phb => Sys2Proof.Machine.execPhb s
  | .styAbs a => Sys2Proof.Machine.execStyAbs a s
  | .staAbs a => Sys2Proof.Machine.execStaAbs a s
  | .stxAbs a => Sys2Proof.Machine.execStxAbs a s
  | .staLong al => Sys2Proof.Machine.execStaLong al s
  | .bccRel r => Sys2Proof.Machine.execBccRel r s
  | .staDpindy d => Sys2Proof.Machine.execStaDpindy d s
  | .staDpind d => Sys2Proof.Machine.execStaDpind d s
  | .staSriy d => Sys2Proof.Machine.execStaSriy d s
  | .styDpx d => Sys2Proof.Machine.execStyDpx d s
  | .staDpx d => Sys2Proof.Machine.execStaDpx d s
  | .stxDpy d => Sys2Proof.Machine.execStxDpy d s
  | .staDpindly d => Sys2Proof.Machine.execStaDpindly d s
  | .tya => Sys2Proof.Machine.execTya s
  | .staAbsy a => Sys2Proof.Machine.execStaAbsy a s
  | .txs => Sys2Proof.Machine.execTxs s
  | .txy => Sys2Proof.Machine.execTxy s
  | .stzAbs a => Sys2Proof.Machine.execStzAbs a s
  | .staAbsx a => Sys2Proof.Machine.execStaAbsx a s
  | .stzAbsx a => Sys2Proof.Machine.execStzAbsx a s
  | .staLongx al => Sys2Proof.Machine.execStaLongx al s
  | .ldyImm c => Sys2Proof.Machine.execLdyImm c s
  | .ldaDpxind d => Sys2Proof.Machine.execLdaDpxind d s
  | .ldxImm c => Sys2Proof.Machine.execLdxImm c s
  | .ldaSr d => Sys2Proof.Machine.execLdaSr d s
  | .ldyDp d => Sys2Proof.Machine.execLdyDp d s
  | .ldaDp d => Sys2Proof.Machine.execLdaDp d s
  | .ldxDp d => Sys2Proof.Machine.execLdxDp d s
  | .ldaDpindl d => Sys2Proof.Machine.execLdaDpindl d s
  | .tay => Sys2Proof.Machine.execTay s
  | .ldaImm c => Sys2Proof.Machine.execLdaImm c s
  | .tax => Sys2Proof.Machine.execTax s
  | .plb => Sys2Proof.Machine.execPlb s
  | .ldyAbs a => Sys2Proof.Machine.execLdyAbs a s
  | .ldaAbs a => Sys2Proof.Machine.execLdaAbs a s
  | .ldxAbs a => Sys2Proof.Machine.execLdxAbs a s
  | .ldaLong al => Sys2Proof.Machine.execLdaLong al s
  | .bcsRel r => Sys2Proof.Machine.execBcsRel r s
  | .ldaDpindy d => Sys2Proof.Machine.execLdaDpindy d s
  | .ldaDpind d => Sys2Proof.Machine.execLdaDpind d s
  | .ldaSriy d => Sys2Proof.Machine.execLdaSriy d s
  | .ldyDpx d => Sys2Proof.Machine.execLdyDpx d s
  | .ldaDpx d => Sys2Proof.Machine.execLdaDpx d s
  | .ldxDpy d => Sys2Proof.Machine.execLdxDpy d s
  | .ldaDpindly d => Sys2Proof.Machine.execLdaDpindly d s
  | .clv => Sys2Proof.Machine.execClv s
  | .ldaAbsy a => Sys2Proof.Machine.execLdaAbsy a s
  | .tsx => Sys2Proof.Machine.execTsx s
  | .tyx => Sys2Proof.Machine.execTyx s
  | .ldyAbsx a => Sys2Proof.Machine.execLdyAbsx a s
  | .ldaAbsx a => Sys2Proof.Machine.execLdaAbsx a s
  | .ldxAbsy a => Sys2Proof.Machine.execLdxAbsy a s
  | .ldaLongx al => Sys2Proof.Machine.execLdaLongx al s
  | .cpyImm c => Sys2Proof.Machine.execCpyImm c s
  | .cmpDpxind d => Sys2Proof.Machine.execCmpDpxind d s
  | .repImm c => Sys2Proof.Machine.execRepImm c s
  | .cmpSr d => Sys2Proof.Machine.execCmpSr d s
  | .cpyDp d => Sys2Proof.Machine.execCpyDp d s
  | .cmpDp d => Sys2Proof.Machine.execCmpDp d s
  | .decDp d => Sys2Proof.Machine.execDecDp d s
  | .cmpDpindl d => Sys2Proof.Machine.execCmpDpindl d s
  | .iny => Sys2Proof.Machine.execIny s
  | .cmpImm c => Sys2Proof.Machine.execCmpImm c s
  | .dex => Sys2Proof.Machine.execDex s
  | .wai => Sys2Proof.Machine.execWai s
  | .cpyAbs a => Sys2Proof.Machine.execCpyAbs a s
  | .cmpAbs a => Sys2Proof.Machine.execCmpAbs a s
  | .decAbs a => Sys2Proof.Machine.execDecAbs a s
  | .cmpLong al => Sys2Proof.Machine.execCmpLong al s
  | .bneRel r => Sys2Proof.Machine.execBneRel r s
  | .cmpDpindy d => Sys2Proof.Machine.execCmpDpindy d s
  | .cmpDpind d => Sys2Proof.Machine.execCmpDpind d s
  | .cmpSriy d => Sys2Proof.Machine.execCmpSriy d s
  | .peiDpind d => Sys2Proof.Machine.execPeiDpind d s
  | .cmpDpx d => Sys2Proof.Machine.execCmpDpx d s
  | .decDpx d => Sys2Proof.Machine.execDecDpx d s
  | .cmpDpindly d => Sys2Proof.Machine.execCmpDpindly d s
  | .cld => Sys2Proof.Machine.execCld s
  | .cmpAbsy a => Sys2Proof.Machine.execCmpAbsy a s
  | .phx => Sys2Proof.Machine.execPhx s
  | .stp => Sys2Proof.Machine.execStp s
  | .jmlAbsindl a => Sys2Proof.Machine.execJmlAbsindl a s
  | .cmpAbsx a => Sys2Proof.Machine.execCmpAbsx a s
  | .decAbsx a => Sys2Proof.Machine.execDecAbsx a s
  | .cmpLongx al => Sys2Proof.Machine.execCmpLongx al s
  | .cpxImm c => Sys2Proof.Machine.execCpxImm c s
  | .sbcDpxind d => Sys2Proof.Machine.execSbcDpxind d s
  | .sepImm c => Sys2Proof.Machine.execSepImm c s
  | .sbcSr d => Sys2Proof.Machine.execSbcSr d s
  | .cpxDp d => Sys2Proof.Machine.execCpxDp d s
  | .sbcDp d => Sys2Proof.Machine.execSbcDp d s
  | .incDp d => Sys2Proof.Machine.execIncDp d s
  | .sbcDpindl d => Sys2Proof.Machine.execSbcDpindl d s
  | .inx => Sys2Proof.Machine.execInx s
  | .sbcImm c => Sys2Proof.Machine.execSbcImm c s
  | .nop => Sys2Proof.Machine.execNop s
  | .xba => Sys2Proof.Machine.execXba s
  | .cpxAbs a => Sys2Proof.Machine.execCpxAbs a s
  | .sbcAbs a => Sys2Proof.Machine.execSbcAbs a s
  | .incAbs a => Sys2Proof.Machine.execIncAbs a s
  | .sbcLong al => Sys2Proof.Machine.execSbcLong al s
  | .beqRel r => Sys2Proof.Machine.execBeqRel r s
  | .sbcDpindy d => Sys2Proof.Machine.execSbcDpindy d s
  | .sbcDpind d => Sys2Proof.Machine.execSbcDpind d s
  | .sbcSriy d => Sys2Proof.Machine.execSbcSriy d s
  | .peaImm16 c => Sys2Proof.Machine.execPeaImm16 c s
  | .sbcDpx d => Sys2Proof.Machine.execSbcDpx d s
  | .incDpx d => Sys2Proof.Machine.execIncDpx d s
  | .sbcDpindly d => Sys2Proof.Machine.execSbcDpindly d s
  | .sed => Sys2Proof.Machine.execSed s
  | .sbcAbsy a => Sys2Proof.Machine.execSbcAbsy a s
  | .plx => Sys2Proof.Machine.execPlx s
  | .xce => Sys2Proof.Machine.execXce s
  | .jsrAbsxind a => Sys2Proof.Machine.execJsrAbsxind a s
  | .sbcAbsx a => Sys2Proof.Machine.execSbcAbsx a s
  | .incAbsx a => Sys2Proof.Machine.execIncAbsx a s
  | .sbcLongx al => Sys2Proof.Machine.execSbcLongx al s

end Sys2Proof.Machine
end

