-- ==== Sys2Proof/WellFormed.lean ====
section
/-! DEFINITION. Which instruction terms an encoding can hold: with an 8-bit accumulator (P.M = 1) an `immM` operand is one
byte, with 8-bit index registers (P.X = 1) an `immX` operand is one byte (30_encoding.md R202, R204). Every other operand's
bound is in its type. -/

namespace Sys2Proof

/-- The operand of an `immM` instruction (0x09, 0x29, 0x49, 0x69, 0x89, 0xA9, 0xC9, 0xE9). -/
def Instr.immM? : Instr → Option Word
  | .oraImm c => some c
  | .andImm c => some c
  | .eorImm c => some c
  | .adcImm c => some c
  | .bitImm c => some c
  | .ldaImm c => some c
  | .cmpImm c => some c
  | .sbcImm c => some c
  | _ => none

/-- The operand of an `immX` instruction (0xA0, 0xA2, 0xC0, 0xE0). -/
def Instr.immX? : Instr → Option Word
  | .ldyImm c => some c
  | .ldxImm c => some c
  | .cpyImm c => some c
  | .cpxImm c => some c
  | _ => none

/-- An 8-bit immediate fits one byte: `eight` says that the width flag is 1. -/
def immFits (eight : Bool) : Option Word → Bool
  | none => true
  | some c => !eight || decide (c.toNat < 256)

/-- `i` is encodable when P.M = `m` and P.X = `x`. -/
def Instr.wellFormed (m x : Bool) (i : Instr) : Bool :=
  immFits m i.immM? && immFits x i.immX?

end Sys2Proof
end

