-- ==== Sys2Proof/Decode.lean ====
section
/-! DEFINITION. The decoder, total on any bytes, and after it the encoder (30_encoding.md R200-R211). Both are written from the
opcode map of R205. -/

namespace Sys2Proof

/-- A cell of the opcode map: how many operand bytes follow the opcode (30_encoding.md R202) and which instruction they make. -/
inductive Form where
  | op0   (i : Instr)
  | op8   (f : Byte → Instr)
  | op16  (f : Word → Instr)
  | op24  (f : Addr → Instr)
  /-- An immediate of the accumulator's width. -/
  | immM  (f : Word → Instr)
  /-- An immediate of the index registers' width. -/
  | immX  (f : Word → Instr)
  /-- Block move: the first byte is the destination bank, the second the source bank. -/
  | banks (f : Byte → Byte → Instr)

/-- Operand bytes of a form when P.M = `m` and P.X = `x` (30_encoding.md R202, R204). -/
def Form.operandLength (m x : Bool) : Form → Nat
  | .op0 _ => 0
  | .op8 _ => 1
  | .op16 _ => 2
  | .op24 _ => 3
  | .immM _ => if m then 1 else 2
  | .immX _ => if x then 1 else 2
  | .banks _ => 2

/-- The instruction a form makes of its operand bytes, given as one little-endian number (30_encoding.md R201, R203). -/
def Form.build (v : Addr) : Form → Instr
  | .op0 i => i
  | .op8 f => f (v.setWidth 8)
  | .op16 f => f (v.setWidth 16)
  | .op24 f => f v
  | .immM f => f (v.setWidth 16)
  | .immX f => f (v.setWidth 16)
  | .banks f => f (v.setWidth 8) ((v >>> 8).setWidth 8)

/-- One row of the opcode map of 30_encoding.md R205: the sixteen opcodes of one high nibble. -/
def opcodeRow : Nat → List Form
  | 0 => [.op8 .brkSig, .op8 .oraDpxind, .op8 .copSig, .op8 .oraSr,
      .op8 .tsbDp, .op8 .oraDp, .op8 .aslDp, .op8 .oraDpindl,
      .op0 .php, .immM .oraImm, .op0 .aslAcc, .op0 .phd,
      .op16 .tsbAbs, .op16 .oraAbs, .op16 .aslAbs, .op24 .oraLong]
  | 1 => [.op8 .bplRel, .op8 .oraDpindy, .op8 .oraDpind, .op8 .oraSriy,
      .op8 .trbDp, .op8 .oraDpx, .op8 .aslDpx, .op8 .oraDpindly,
      .op0 .clc, .op16 .oraAbsy, .op0 .incAcc, .op0 .tcs,
      .op16 .trbAbs, .op16 .oraAbsx, .op16 .aslAbsx, .op24 .oraLongx]
  | 2 => [.op16 .jsrAbs, .op8 .andDpxind, .op24 .jslLong, .op8 .andSr,
      .op8 .bitDp, .op8 .andDp, .op8 .rolDp, .op8 .andDpindl,
      .op0 .plp, .immM .andImm, .op0 .rolAcc, .op0 .pld,
      .op16 .bitAbs, .op16 .andAbs, .op16 .rolAbs, .op24 .andLong]
  | 3 => [.op8 .bmiRel, .op8 .andDpindy, .op8 .andDpind, .op8 .andSriy,
      .op8 .bitDpx, .op8 .andDpx, .op8 .rolDpx, .op8 .andDpindly,
      .op0 .sec, .op16 .andAbsy, .op0 .decAcc, .op0 .tsc,
      .op16 .bitAbsx, .op16 .andAbsx, .op16 .rolAbsx, .op24 .andLongx]
  | 4 => [.op0 .rti, .op8 .eorDpxind, .op8 .wdmSig, .op8 .eorSr,
      .banks .mvpBm, .op8 .eorDp, .op8 .lsrDp, .op8 .eorDpindl,
      .op0 .pha, .immM .eorImm, .op0 .lsrAcc, .op0 .phk,
      .op16 .jmpAbs, .op16 .eorAbs, .op16 .lsrAbs, .op24 .eorLong]
  | 5 => [.op8 .bvcRel, .op8 .eorDpindy, .op8 .eorDpind, .op8 .eorSriy,
      .banks .mvnBm, .op8 .eorDpx, .op8 .lsrDpx, .op8 .eorDpindly,
      .op0 .cli, .op16 .eorAbsy, .op0 .phy, .op0 .tcd,
      .op24 .jmlLong, .op16 .eorAbsx, .op16 .lsrAbsx, .op24 .eorLongx]
  | 6 => [.op0 .rts, .op8 .adcDpxind, .op16 .perRell, .op8 .adcSr,
      .op8 .stzDp, .op8 .adcDp, .op8 .rorDp, .op8 .adcDpindl,
      .op0 .pla, .immM .adcImm, .op0 .rorAcc, .op0 .rtl,
      .op16 .jmpAbsind, .op16 .adcAbs, .op16 .rorAbs, .op24 .adcLong]
  | 7 => [.op8 .bvsRel, .op8 .adcDpindy, .op8 .adcDpind, .op8 .adcSriy,
      .op8 .stzDpx, .op8 .adcDpx, .op8 .rorDpx, .op8 .adcDpindly,
      .op0 .sei, .op16 .adcAbsy, .op0 .ply, .op0 .tdc,
      .op16 .jmpAbsxind, .op16 .adcAbsx, .op16 .rorAbsx, .op24 .adcLongx]
  | 8 => [.op8 .braRel, .op8 .staDpxind, .op16 .brlRell, .op8 .staSr,
      .op8 .styDp, .op8 .staDp, .op8 .stxDp, .op8 .staDpindl,
      .op0 .dey, .immM .bitImm, .op0 .txa, .op0 .phb,
      .op16 .styAbs, .op16 .staAbs, .op16 .stxAbs, .op24 .staLong]
  | 9 => [.op8 .bccRel, .op8 .staDpindy, .op8 .staDpind, .op8 .staSriy,
      .op8 .styDpx, .op8 .staDpx, .op8 .stxDpy, .op8 .staDpindly,
      .op0 .tya, .op16 .staAbsy, .op0 .txs, .op0 .txy,
      .op16 .stzAbs, .op16 .staAbsx, .op16 .stzAbsx, .op24 .staLongx]
  | 10 => [.immX .ldyImm, .op8 .ldaDpxind, .immX .ldxImm, .op8 .ldaSr,
      .op8 .ldyDp, .op8 .ldaDp, .op8 .ldxDp, .op8 .ldaDpindl,
      .op0 .tay, .immM .ldaImm, .op0 .tax, .op0 .plb,
      .op16 .ldyAbs, .op16 .ldaAbs, .op16 .ldxAbs, .op24 .ldaLong]
  | 11 => [.op8 .bcsRel, .op8 .ldaDpindy, .op8 .ldaDpind, .op8 .ldaSriy,
      .op8 .ldyDpx, .op8 .ldaDpx, .op8 .ldxDpy, .op8 .ldaDpindly,
      .op0 .clv, .op16 .ldaAbsy, .op0 .tsx, .op0 .tyx,
      .op16 .ldyAbsx, .op16 .ldaAbsx, .op16 .ldxAbsy, .op24 .ldaLongx]
  | 12 => [.immX .cpyImm, .op8 .cmpDpxind, .op8 .repImm, .op8 .cmpSr,
      .op8 .cpyDp, .op8 .cmpDp, .op8 .decDp, .op8 .cmpDpindl,
      .op0 .iny, .immM .cmpImm, .op0 .dex, .op0 .wai,
      .op16 .cpyAbs, .op16 .cmpAbs, .op16 .decAbs, .op24 .cmpLong]
  | 13 => [.op8 .bneRel, .op8 .cmpDpindy, .op8 .cmpDpind, .op8 .cmpSriy,
      .op8 .peiDpind, .op8 .cmpDpx, .op8 .decDpx, .op8 .cmpDpindly,
      .op0 .cld, .op16 .cmpAbsy, .op0 .phx, .op0 .stp,
      .op16 .jmlAbsindl, .op16 .cmpAbsx, .op16 .decAbsx, .op24 .cmpLongx]
  | 14 => [.immX .cpxImm, .op8 .sbcDpxind, .op8 .sepImm, .op8 .sbcSr,
      .op8 .cpxDp, .op8 .sbcDp, .op8 .incDp, .op8 .sbcDpindl,
      .op0 .inx, .immM .sbcImm, .op0 .nop, .op0 .xba,
      .op16 .cpxAbs, .op16 .sbcAbs, .op16 .incAbs, .op24 .sbcLong]
  | 15 => [.op8 .beqRel, .op8 .sbcDpindy, .op8 .sbcDpind, .op8 .sbcSriy,
      .op16 .peaImm16, .op8 .sbcDpx, .op8 .incDpx, .op8 .sbcDpindly,
      .op0 .sed, .op16 .sbcAbsy, .op0 .plx, .op0 .xce,
      .op16 .jsrAbsxind, .op16 .sbcAbsx, .op16 .incAbsx, .op24 .sbcLongx]
  | _ => []

/-- The opcode map: 256 opcodes, none of them illegal (30_encoding.md R205, R207). Every row has its sixteen cells
(`Laws/Decode.lean`), so the default is never taken. -/
def opcodeForm (op : Byte) : Form :=
  (opcodeRow (op.toNat / 16)).getD (op.toNat % 16) (.op0 .nop)

/-- Operand bytes that follow the opcode `op` when P.M = `m` and P.X = `x` (30_encoding.md R204). -/
def operandLength (m x : Bool) (op : Byte) : Nat := (opcodeForm op).operandLength m x

/-- The instruction of opcode `op` with its operand bytes read as one little-endian number (30_encoding.md R211). -/
def instrOf (op : Byte) (v : Addr) : Instr := (opcodeForm op).build v

/-- Why a list of bytes holds no instruction. No opcode is illegal, so only a list that ends too early is rejected. -/
inductive DecodeError where
  | noOpcode
  | missingOperand (op : Byte)
  deriving DecidableEq, Repr

/-- The decoder: the first instruction of a list of bytes and the bytes after it, when P.M = `m` and P.X = `x`. -/
def decode (m x : Bool) : List Byte → Except DecodeError (Instr × List Byte)
  | [] => .error .noOpcode
  | op :: rest =>
    let n := operandLength m x op
    if rest.length < n then .error (.missingOperand op)
    else .ok (instrOf op (leAddr (rest.take n)), rest.drop n)

/-- The opcode byte of an instruction (30_encoding.md R205). -/
def Instr.opcode : Instr → Byte
  | .brkSig _ => 0x00
  | .oraDpxind _ => 0x01
  | .copSig _ => 0x02
  | .oraSr _ => 0x03
  | .tsbDp _ => 0x04
  | .oraDp _ => 0x05
  | .aslDp _ => 0x06
  | .oraDpindl _ => 0x07
  | .php => 0x08
  | .oraImm _ => 0x09
  | .aslAcc => 0x0A
  | .phd => 0x0B
  | .tsbAbs _ => 0x0C
  | .oraAbs _ => 0x0D
  | .aslAbs _ => 0x0E
  | .oraLong _ => 0x0F
  | .bplRel _ => 0x10
  | .oraDpindy _ => 0x11
  | .oraDpind _ => 0x12
  | .oraSriy _ => 0x13
  | .trbDp _ => 0x14
  | .oraDpx _ => 0x15
  | .aslDpx _ => 0x16
  | .oraDpindly _ => 0x17
  | .clc => 0x18
  | .oraAbsy _ => 0x19
  | .incAcc => 0x1A
  | .tcs => 0x1B
  | .trbAbs _ => 0x1C
  | .oraAbsx _ => 0x1D
  | .aslAbsx _ => 0x1E
  | .oraLongx _ => 0x1F
  | .jsrAbs _ => 0x20
  | .andDpxind _ => 0x21
  | .jslLong _ => 0x22
  | .andSr _ => 0x23
  | .bitDp _ => 0x24
  | .andDp _ => 0x25
  | .rolDp _ => 0x26
  | .andDpindl _ => 0x27
  | .plp => 0x28
  | .andImm _ => 0x29
  | .rolAcc => 0x2A
  | .pld => 0x2B
  | .bitAbs _ => 0x2C
  | .andAbs _ => 0x2D
  | .rolAbs _ => 0x2E
  | .andLong _ => 0x2F
  | .bmiRel _ => 0x30
  | .andDpindy _ => 0x31
  | .andDpind _ => 0x32
  | .andSriy _ => 0x33
  | .bitDpx _ => 0x34
  | .andDpx _ => 0x35
  | .rolDpx _ => 0x36
  | .andDpindly _ => 0x37
  | .sec => 0x38
  | .andAbsy _ => 0x39
  | .decAcc => 0x3A
  | .tsc => 0x3B
  | .bitAbsx _ => 0x3C
  | .andAbsx _ => 0x3D
  | .rolAbsx _ => 0x3E
  | .andLongx _ => 0x3F
  | .rti => 0x40
  | .eorDpxind _ => 0x41
  | .wdmSig _ => 0x42
  | .eorSr _ => 0x43
  | .mvpBm _ _ => 0x44
  | .eorDp _ => 0x45
  | .lsrDp _ => 0x46
  | .eorDpindl _ => 0x47
  | .pha => 0x48
  | .eorImm _ => 0x49
  | .lsrAcc => 0x4A
  | .phk => 0x4B
  | .jmpAbs _ => 0x4C
  | .eorAbs _ => 0x4D
  | .lsrAbs _ => 0x4E
  | .eorLong _ => 0x4F
  | .bvcRel _ => 0x50
  | .eorDpindy _ => 0x51
  | .eorDpind _ => 0x52
  | .eorSriy _ => 0x53
  | .mvnBm _ _ => 0x54
  | .eorDpx _ => 0x55
  | .lsrDpx _ => 0x56
  | .eorDpindly _ => 0x57
  | .cli => 0x58
  | .eorAbsy _ => 0x59
  | .phy => 0x5A
  | .tcd => 0x5B
  | .jmlLong _ => 0x5C
  | .eorAbsx _ => 0x5D
  | .lsrAbsx _ => 0x5E
  | .eorLongx _ => 0x5F
  | .rts => 0x60
  | .adcDpxind _ => 0x61
  | .perRell _ => 0x62
  | .adcSr _ => 0x63
  | .stzDp _ => 0x64
  | .adcDp _ => 0x65
  | .rorDp _ => 0x66
  | .adcDpindl _ => 0x67
  | .pla => 0x68
  | .adcImm _ => 0x69
  | .rorAcc => 0x6A
  | .rtl => 0x6B
  | .jmpAbsind _ => 0x6C
  | .adcAbs _ => 0x6D
  | .rorAbs _ => 0x6E
  | .adcLong _ => 0x6F
  | .bvsRel _ => 0x70
  | .adcDpindy _ => 0x71
  | .adcDpind _ => 0x72
  | .adcSriy _ => 0x73
  | .stzDpx _ => 0x74
  | .adcDpx _ => 0x75
  | .rorDpx _ => 0x76
  | .adcDpindly _ => 0x77
  | .sei => 0x78
  | .adcAbsy _ => 0x79
  | .ply => 0x7A
  | .tdc => 0x7B
  | .jmpAbsxind _ => 0x7C
  | .adcAbsx _ => 0x7D
  | .rorAbsx _ => 0x7E
  | .adcLongx _ => 0x7F
  | .braRel _ => 0x80
  | .staDpxind _ => 0x81
  | .brlRell _ => 0x82
  | .staSr _ => 0x83
  | .styDp _ => 0x84
  | .staDp _ => 0x85
  | .stxDp _ => 0x86
  | .staDpindl _ => 0x87
  | .dey => 0x88
  | .bitImm _ => 0x89
  | .txa => 0x8A
  | .phb => 0x8B
  | .styAbs _ => 0x8C
  | .staAbs _ => 0x8D
  | .stxAbs _ => 0x8E
  | .staLong _ => 0x8F
  | .bccRel _ => 0x90
  | .staDpindy _ => 0x91
  | .staDpind _ => 0x92
  | .staSriy _ => 0x93
  | .styDpx _ => 0x94
  | .staDpx _ => 0x95
  | .stxDpy _ => 0x96
  | .staDpindly _ => 0x97
  | .tya => 0x98
  | .staAbsy _ => 0x99
  | .txs => 0x9A
  | .txy => 0x9B
  | .stzAbs _ => 0x9C
  | .staAbsx _ => 0x9D
  | .stzAbsx _ => 0x9E
  | .staLongx _ => 0x9F
  | .ldyImm _ => 0xA0
  | .ldaDpxind _ => 0xA1
  | .ldxImm _ => 0xA2
  | .ldaSr _ => 0xA3
  | .ldyDp _ => 0xA4
  | .ldaDp _ => 0xA5
  | .ldxDp _ => 0xA6
  | .ldaDpindl _ => 0xA7
  | .tay => 0xA8
  | .ldaImm _ => 0xA9
  | .tax => 0xAA
  | .plb => 0xAB
  | .ldyAbs _ => 0xAC
  | .ldaAbs _ => 0xAD
  | .ldxAbs _ => 0xAE
  | .ldaLong _ => 0xAF
  | .bcsRel _ => 0xB0
  | .ldaDpindy _ => 0xB1
  | .ldaDpind _ => 0xB2
  | .ldaSriy _ => 0xB3
  | .ldyDpx _ => 0xB4
  | .ldaDpx _ => 0xB5
  | .ldxDpy _ => 0xB6
  | .ldaDpindly _ => 0xB7
  | .clv => 0xB8
  | .ldaAbsy _ => 0xB9
  | .tsx => 0xBA
  | .tyx => 0xBB
  | .ldyAbsx _ => 0xBC
  | .ldaAbsx _ => 0xBD
  | .ldxAbsy _ => 0xBE
  | .ldaLongx _ => 0xBF
  | .cpyImm _ => 0xC0
  | .cmpDpxind _ => 0xC1
  | .repImm _ => 0xC2
  | .cmpSr _ => 0xC3
  | .cpyDp _ => 0xC4
  | .cmpDp _ => 0xC5
  | .decDp _ => 0xC6
  | .cmpDpindl _ => 0xC7
  | .iny => 0xC8
  | .cmpImm _ => 0xC9
  | .dex => 0xCA
  | .wai => 0xCB
  | .cpyAbs _ => 0xCC
  | .cmpAbs _ => 0xCD
  | .decAbs _ => 0xCE
  | .cmpLong _ => 0xCF
  | .bneRel _ => 0xD0
  | .cmpDpindy _ => 0xD1
  | .cmpDpind _ => 0xD2
  | .cmpSriy _ => 0xD3
  | .peiDpind _ => 0xD4
  | .cmpDpx _ => 0xD5
  | .decDpx _ => 0xD6
  | .cmpDpindly _ => 0xD7
  | .cld => 0xD8
  | .cmpAbsy _ => 0xD9
  | .phx => 0xDA
  | .stp => 0xDB
  | .jmlAbsindl _ => 0xDC
  | .cmpAbsx _ => 0xDD
  | .decAbsx _ => 0xDE
  | .cmpLongx _ => 0xDF
  | .cpxImm _ => 0xE0
  | .sbcDpxind _ => 0xE1
  | .sepImm _ => 0xE2
  | .sbcSr _ => 0xE3
  | .cpxDp _ => 0xE4
  | .sbcDp _ => 0xE5
  | .incDp _ => 0xE6
  | .sbcDpindl _ => 0xE7
  | .inx => 0xE8
  | .sbcImm _ => 0xE9
  | .nop => 0xEA
  | .xba => 0xEB
  | .cpxAbs _ => 0xEC
  | .sbcAbs _ => 0xED
  | .incAbs _ => 0xEE
  | .sbcLong _ => 0xEF
  | .beqRel _ => 0xF0
  | .sbcDpindy _ => 0xF1
  | .sbcDpind _ => 0xF2
  | .sbcSriy _ => 0xF3
  | .peaImm16 _ => 0xF4
  | .sbcDpx _ => 0xF5
  | .incDpx _ => 0xF6
  | .sbcDpindly _ => 0xF7
  | .sed => 0xF8
  | .sbcAbsy _ => 0xF9
  | .plx => 0xFA
  | .xce => 0xFB
  | .jsrAbsxind _ => 0xFC
  | .sbcAbsx _ => 0xFD
  | .incAbsx _ => 0xFE
  | .sbcLongx _ => 0xFF

/-- An immediate as its operand bytes: one when the width flag `eight` is 1, else two, low byte first (30_encoding.md R203). -/
def immBytes (eight : Bool) (c : Word) : List Byte :=
  if eight then [lowByte c] else [lowByte c, highByte c]

/-- The operand bytes of an instruction when P.M = `m` and P.X = `x` (30_encoding.md R201, R202). -/
def Instr.operandBytes (m x : Bool) : Instr → List Byte
  | .brkSig sig => [sig]
  | .oraDpxind d => [d]
  | .copSig sig => [sig]
  | .oraSr d => [d]
  | .tsbDp d => [d]
  | .oraDp d => [d]
  | .aslDp d => [d]
  | .oraDpindl d => [d]
  | .php => []
  | .oraImm c => immBytes m c
  | .aslAcc => []
  | .phd => []
  | .tsbAbs a => [lowByte a, highByte a]
  | .oraAbs a => [lowByte a, highByte a]
  | .aslAbs a => [lowByte a, highByte a]
  | .oraLong al => [addrLow al, addrMid al, addrBank al]
  | .bplRel r => [r]
  | .oraDpindy d => [d]
  | .oraDpind d => [d]
  | .oraSriy d => [d]
  | .trbDp d => [d]
  | .oraDpx d => [d]
  | .aslDpx d => [d]
  | .oraDpindly d => [d]
  | .clc => []
  | .oraAbsy a => [lowByte a, highByte a]
  | .incAcc => []
  | .tcs => []
  | .trbAbs a => [lowByte a, highByte a]
  | .oraAbsx a => [lowByte a, highByte a]
  | .aslAbsx a => [lowByte a, highByte a]
  | .oraLongx al => [addrLow al, addrMid al, addrBank al]
  | .jsrAbs a => [lowByte a, highByte a]
  | .andDpxind d => [d]
  | .jslLong al => [addrLow al, addrMid al, addrBank al]
  | .andSr d => [d]
  | .bitDp d => [d]
  | .andDp d => [d]
  | .rolDp d => [d]
  | .andDpindl d => [d]
  | .plp => []
  | .andImm c => immBytes m c
  | .rolAcc => []
  | .pld => []
  | .bitAbs a => [lowByte a, highByte a]
  | .andAbs a => [lowByte a, highByte a]
  | .rolAbs a => [lowByte a, highByte a]
  | .andLong al => [addrLow al, addrMid al, addrBank al]
  | .bmiRel r => [r]
  | .andDpindy d => [d]
  | .andDpind d => [d]
  | .andSriy d => [d]
  | .bitDpx d => [d]
  | .andDpx d => [d]
  | .rolDpx d => [d]
  | .andDpindly d => [d]
  | .sec => []
  | .andAbsy a => [lowByte a, highByte a]
  | .decAcc => []
  | .tsc => []
  | .bitAbsx a => [lowByte a, highByte a]
  | .andAbsx a => [lowByte a, highByte a]
  | .rolAbsx a => [lowByte a, highByte a]
  | .andLongx al => [addrLow al, addrMid al, addrBank al]
  | .rti => []
  | .eorDpxind d => [d]
  | .wdmSig sig => [sig]
  | .eorSr d => [d]
  | .mvpBm dst src => [dst, src]
  | .eorDp d => [d]
  | .lsrDp d => [d]
  | .eorDpindl d => [d]
  | .pha => []
  | .eorImm c => immBytes m c
  | .lsrAcc => []
  | .phk => []
  | .jmpAbs a => [lowByte a, highByte a]
  | .eorAbs a => [lowByte a, highByte a]
  | .lsrAbs a => [lowByte a, highByte a]
  | .eorLong al => [addrLow al, addrMid al, addrBank al]
  | .bvcRel r => [r]
  | .eorDpindy d => [d]
  | .eorDpind d => [d]
  | .eorSriy d => [d]
  | .mvnBm dst src => [dst, src]
  | .eorDpx d => [d]
  | .lsrDpx d => [d]
  | .eorDpindly d => [d]
  | .cli => []
  | .eorAbsy a => [lowByte a, highByte a]
  | .phy => []
  | .tcd => []
  | .jmlLong al => [addrLow al, addrMid al, addrBank al]
  | .eorAbsx a => [lowByte a, highByte a]
  | .lsrAbsx a => [lowByte a, highByte a]
  | .eorLongx al => [addrLow al, addrMid al, addrBank al]
  | .rts => []
  | .adcDpxind d => [d]
  | .perRell r => [lowByte r, highByte r]
  | .adcSr d => [d]
  | .stzDp d => [d]
  | .adcDp d => [d]
  | .rorDp d => [d]
  | .adcDpindl d => [d]
  | .pla => []
  | .adcImm c => immBytes m c
  | .rorAcc => []
  | .rtl => []
  | .jmpAbsind a => [lowByte a, highByte a]
  | .adcAbs a => [lowByte a, highByte a]
  | .rorAbs a => [lowByte a, highByte a]
  | .adcLong al => [addrLow al, addrMid al, addrBank al]
  | .bvsRel r => [r]
  | .adcDpindy d => [d]
  | .adcDpind d => [d]
  | .adcSriy d => [d]
  | .stzDpx d => [d]
  | .adcDpx d => [d]
  | .rorDpx d => [d]
  | .adcDpindly d => [d]
  | .sei => []
  | .adcAbsy a => [lowByte a, highByte a]
  | .ply => []
  | .tdc => []
  | .jmpAbsxind a => [lowByte a, highByte a]
  | .adcAbsx a => [lowByte a, highByte a]
  | .rorAbsx a => [lowByte a, highByte a]
  | .adcLongx al => [addrLow al, addrMid al, addrBank al]
  | .braRel r => [r]
  | .staDpxind d => [d]
  | .brlRell r => [lowByte r, highByte r]
  | .staSr d => [d]
  | .styDp d => [d]
  | .staDp d => [d]
  | .stxDp d => [d]
  | .staDpindl d => [d]
  | .dey => []
  | .bitImm c => immBytes m c
  | .txa => []
  | .phb => []
  | .styAbs a => [lowByte a, highByte a]
  | .staAbs a => [lowByte a, highByte a]
  | .stxAbs a => [lowByte a, highByte a]
  | .staLong al => [addrLow al, addrMid al, addrBank al]
  | .bccRel r => [r]
  | .staDpindy d => [d]
  | .staDpind d => [d]
  | .staSriy d => [d]
  | .styDpx d => [d]
  | .staDpx d => [d]
  | .stxDpy d => [d]
  | .staDpindly d => [d]
  | .tya => []
  | .staAbsy a => [lowByte a, highByte a]
  | .txs => []
  | .txy => []
  | .stzAbs a => [lowByte a, highByte a]
  | .staAbsx a => [lowByte a, highByte a]
  | .stzAbsx a => [lowByte a, highByte a]
  | .staLongx al => [addrLow al, addrMid al, addrBank al]
  | .ldyImm c => immBytes x c
  | .ldaDpxind d => [d]
  | .ldxImm c => immBytes x c
  | .ldaSr d => [d]
  | .ldyDp d => [d]
  | .ldaDp d => [d]
  | .ldxDp d => [d]
  | .ldaDpindl d => [d]
  | .tay => []
  | .ldaImm c => immBytes m c
  | .tax => []
  | .plb => []
  | .ldyAbs a => [lowByte a, highByte a]
  | .ldaAbs a => [lowByte a, highByte a]
  | .ldxAbs a => [lowByte a, highByte a]
  | .ldaLong al => [addrLow al, addrMid al, addrBank al]
  | .bcsRel r => [r]
  | .ldaDpindy d => [d]
  | .ldaDpind d => [d]
  | .ldaSriy d => [d]
  | .ldyDpx d => [d]
  | .ldaDpx d => [d]
  | .ldxDpy d => [d]
  | .ldaDpindly d => [d]
  | .clv => []
  | .ldaAbsy a => [lowByte a, highByte a]
  | .tsx => []
  | .tyx => []
  | .ldyAbsx a => [lowByte a, highByte a]
  | .ldaAbsx a => [lowByte a, highByte a]
  | .ldxAbsy a => [lowByte a, highByte a]
  | .ldaLongx al => [addrLow al, addrMid al, addrBank al]
  | .cpyImm c => immBytes x c
  | .cmpDpxind d => [d]
  | .repImm c => [c]
  | .cmpSr d => [d]
  | .cpyDp d => [d]
  | .cmpDp d => [d]
  | .decDp d => [d]
  | .cmpDpindl d => [d]
  | .iny => []
  | .cmpImm c => immBytes m c
  | .dex => []
  | .wai => []
  | .cpyAbs a => [lowByte a, highByte a]
  | .cmpAbs a => [lowByte a, highByte a]
  | .decAbs a => [lowByte a, highByte a]
  | .cmpLong al => [addrLow al, addrMid al, addrBank al]
  | .bneRel r => [r]
  | .cmpDpindy d => [d]
  | .cmpDpind d => [d]
  | .cmpSriy d => [d]
  | .peiDpind d => [d]
  | .cmpDpx d => [d]
  | .decDpx d => [d]
  | .cmpDpindly d => [d]
  | .cld => []
  | .cmpAbsy a => [lowByte a, highByte a]
  | .phx => []
  | .stp => []
  | .jmlAbsindl a => [lowByte a, highByte a]
  | .cmpAbsx a => [lowByte a, highByte a]
  | .decAbsx a => [lowByte a, highByte a]
  | .cmpLongx al => [addrLow al, addrMid al, addrBank al]
  | .cpxImm c => immBytes x c
  | .sbcDpxind d => [d]
  | .sepImm c => [c]
  | .sbcSr d => [d]
  | .cpxDp d => [d]
  | .sbcDp d => [d]
  | .incDp d => [d]
  | .sbcDpindl d => [d]
  | .inx => []
  | .sbcImm c => immBytes m c
  | .nop => []
  | .xba => []
  | .cpxAbs a => [lowByte a, highByte a]
  | .sbcAbs a => [lowByte a, highByte a]
  | .incAbs a => [lowByte a, highByte a]
  | .sbcLong al => [addrLow al, addrMid al, addrBank al]
  | .beqRel r => [r]
  | .sbcDpindy d => [d]
  | .sbcDpind d => [d]
  | .sbcSriy d => [d]
  | .peaImm16 c => [lowByte c, highByte c]
  | .sbcDpx d => [d]
  | .incDpx d => [d]
  | .sbcDpindly d => [d]
  | .sed => []
  | .sbcAbsy a => [lowByte a, highByte a]
  | .plx => []
  | .xce => []
  | .jsrAbsxind a => [lowByte a, highByte a]
  | .sbcAbsx a => [lowByte a, highByte a]
  | .incAbsx a => [lowByte a, highByte a]
  | .sbcLongx al => [addrLow al, addrMid al, addrBank al]

/-- The encoder: the bytes of a well-formed instruction when P.M = `m` and P.X = `x`, the opcode first. -/
def encode (m x : Bool) (i : Instr) : List Byte := i.opcode :: i.operandBytes m x

/-- The `n` lowest bytes of a number, the least significant first: how the hardware stores a word of the opcode table. -/
def leBytes : Nat → Nat → List Byte
  | 0, _ => []
  | n + 1, w => BitVec.ofNat 8 w :: leBytes n (w / 256)

/-- What the decoder reads from an instruction whose bits are `w`, bit 0 the least significant of the first byte; every bit from
`nbits` up is 0. The widths are those after reset, P.M = P.X = 1 (log 8). -/
def decodeTableWord (nbits w : Nat) : Option Instr :=
  match decode true true (leBytes 4 (w % 2 ^ nbits)) with
  | .ok (i, _) => some i
  | .error _ => none

end Sys2Proof
end

