-- ==== Sys2Proof/Machine/Fetch.lean ====
section
/-! DEFINITION. The parts of one CPU step (30_encoding.md R212): the idle step, taking an interrupt, fetching and decoding an
instruction from the bus, and the cycles each returns (R215, 70_reset_and_hazards.md R680). Step.lean puts them together. Beside
them, how an instruction is placed where the next step fetches it (log 8). -/

namespace Sys2Proof.Machine

/-- One row of base cycles: the sixteen opcodes of one high nibble (spec/opcode_table.json, field `cycles`). -/
def cycleRow : Nat → List Nat
  | 0 => [7, 6, 7, 4, 5, 3, 5, 6, 3, 2, 2, 4, 6, 4, 6, 5]
  | 1 => [2, 5, 5, 7, 5, 4, 6, 6, 2, 4, 2, 2, 6, 4, 7, 5]
  | 2 => [6, 6, 8, 4, 3, 3, 5, 6, 4, 2, 2, 5, 4, 4, 6, 5]
  | 3 => [2, 5, 5, 7, 4, 4, 6, 6, 2, 4, 2, 2, 4, 4, 7, 5]
  | 4 => [6, 6, 2, 4, 7, 3, 5, 6, 3, 2, 2, 3, 3, 4, 6, 5]
  | 5 => [2, 5, 5, 7, 7, 4, 6, 6, 2, 4, 3, 2, 4, 4, 7, 5]
  | 6 => [6, 6, 6, 4, 3, 3, 5, 6, 4, 2, 2, 6, 5, 4, 6, 5]
  | 7 => [2, 5, 5, 7, 4, 4, 6, 6, 2, 4, 4, 2, 6, 4, 7, 5]
  | 8 => [3, 6, 4, 4, 3, 3, 3, 6, 2, 2, 2, 3, 4, 4, 4, 5]
  | 9 => [2, 6, 5, 7, 4, 4, 4, 6, 2, 5, 2, 2, 4, 5, 5, 5]
  | 10 => [2, 6, 2, 4, 3, 3, 3, 6, 2, 2, 2, 4, 4, 4, 4, 5]
  | 11 => [2, 5, 5, 7, 4, 4, 4, 6, 2, 4, 2, 2, 4, 4, 4, 5]
  | 12 => [2, 6, 3, 4, 3, 3, 5, 6, 2, 2, 2, 3, 4, 4, 6, 5]
  | 13 => [2, 5, 5, 7, 6, 4, 6, 6, 2, 4, 3, 3, 6, 4, 7, 5]
  | 14 => [2, 6, 3, 4, 3, 3, 5, 6, 2, 2, 2, 3, 4, 4, 6, 5]
  | 15 => [2, 5, 5, 7, 5, 4, 6, 6, 2, 4, 4, 2, 8, 4, 7, 5]
  | _ => []

/-- `base_cycles(op)` (30_encoding.md R215). -/
def baseCycles (op : Byte) : Nat := (cycleRow (op.toNat / 16)).getD (op.toNat % 16) 0

/-- An idle step, waiting or stopped (30_encoding.md R212). -/
def idleStep (s : State) : State := addCycles s.params.idleStepCycles s

/-- A step that takes an interrupt: it ends a wait, enters, and costs 7 cycles in emulation mode, 8 in native mode
(30_encoding.md R212). -/
def interruptStep (k : Interrupt) (s : State) : State :=
  addCycles (if s.cpu.e then 7 else 8) (raiseInterrupt k { s with cpu := { s.cpu with waiting := false } })

/-- The start of a step that fetches: an ended wait is over (30_encoding.md R212), and no DMA byte has moved in it yet. -/
def beginStep (s : State) : State :=
  { s with cpu := { s.cpu with waiting := false }, bus := { s.bus with dmaBytes := 0 } }

/-- Fetch the operand bytes of opcode `op` and decode the instruction (30_encoding.md R204, R211, R213). -/
def fetchOperands (op : Byte) (s : State) : Instr × State :=
  let r := fetchBytes (operandLength s.cpu.p.m s.cpu.p.x op) s
  (instrOf op (leAddr r.1), r.2)

/-- A DecodeMiss: PC is past the opcode byte, the counter counts, 2 cycles (30_encoding.md R214). -/
def decodeMiss (s : State) : State :=
  addCycles 2 { s with cpu := { s.cpu with decodeMisses := s.cpu.decodeMisses + 1 } }

/-- The end of an executed instruction of `base` cycles: its cycles and the cost of the DMA it started (30_encoding.md R215,
20_memory.md R144). -/
def finishStep (base : Nat) (s : State) : State :=
  addCycles (base + s.params.dmaCyclesPerByte * s.bus.dmaBytes) s

/-- Whether the step is idle: stopped, or waiting with no interrupt and no IRQ level (30_encoding.md R212). -/
def waitsOn (c : Cpu) : Bool := c.waiting && !c.irqPending

/-! ### Placing an instruction -/

/-- Put a byte where a read of `a` finds it, without any side effect; an address that holds no byte is left alone. -/
def Bus.place (a : Addr) (v : Byte) (b : Bus) : Bus :=
  match b.target a with
  | .wram i => { b with wram := Cells.write b.wram i v }
  | .sram i => if i < b.saveRamSize then { b with sram := Cells.write b.sram i v } else b
  | .rom o => { b with cart := b.cart.map fun c => { c with rom := Cells.write c.rom (o % c.romSize) v } }
  | .reg off => b.setReg off v
  | .unmapped => b

/-- Put bytes at PB:PC and on, the offset wrapping in the bank. -/
def placeAt (bank : Byte) (off : Word) : List Byte → Bus → Bus
  | [], b => b
  | v :: vs, b => placeAt bank (off + 1) vs (b.place (addrOf bank off) v)

/-- Put bytes where the next fetch reads them: at PB:PC if the bus can hold them there, else at 0x00:0000, in work-RAM, with PB and
PC moved there (log 8). -/
def placeInstruction (bytes : List Byte) (s : State) : State :=
  let t := { s with bus := placeAt s.cpu.pb s.cpu.pc bytes s.bus }
  if (fetchBytes bytes.length t).1 = bytes then t
  else setPc 0 (setPb 0 { s with bus := placeAt 0 0 bytes s.bus })

/-- Whatever keeps the next step from fetching and executing opcode `op` is taken away: a stop, a wait, an interrupt to take, and
`op` standing among the unimplemented (log 8). -/
def readyToFetch (op : Byte) (s : State) : State :=
  { s with
    cpu := { s.cpu with
      stopped := false
      waiting := false
      nmiPending := false
      irqPending := s.cpu.irqPending && s.cpu.p.i }
    params := { s.params with unimplemented := s.params.unimplemented.filter (· ≠ op) } }

end Sys2Proof.Machine
end

