-- ==== Sys2Proof/Machine/Step.lean ====
section
/-! DEFINITION. One CPU step, the `step()` of 30_encoding.md R212, and the placing of an instruction where it fetches. The frame
scheduler, which calls `step` and raises the vertical-blank NMI between steps, is Scheduler.lean (log 6). -/

namespace Sys2Proof.Machine

/-- What follows execution: the step's cycles are added to the state an instruction leaves (30_encoding.md R215). -/
def finish (base : Nat) (r : Host.Outcome State Fault Refusal) : Host.Outcome State Fault Refusal :=
  match r with
  | .next t => .next (finishStep base t)
  | .fault f => .fault f
  | .refused f => .refused f

/-- Fetch, decode and execute one instruction (30_encoding.md R212-R215). -/
def runInstruction (s : State) : Host.Outcome State Fault Refusal :=
  let op := fetch8 (beginStep s)
  if op.1 ∈ s.params.unimplemented then .next (decodeMiss op.2)
  else
    let f := fetchOperands op.1 op.2
    finish (baseCycles op.1) (exec f.1 f.2)

/-- One CPU step (30_encoding.md R212): stopped; else an interrupt to take; else waiting; else one instruction. -/
def step (s : State) : Host.Outcome State Fault Refusal :=
  if s.cpu.stopped then .next (idleStep s)
  else
    match pendingInterrupt s.cpu with
    | some k => .next (interruptStep k s)
    | none => if waitsOn s.cpu then .next (idleStep s) else runInstruction s

/-- `s` with the instruction whose bits are `w` (bit 0 the least significant of the first byte, the bits from `nbits` up zero) where
the next step fetches and executes it. On a state like `State.reset`, whose PC points into work-RAM with nothing pending, only
those four bytes change (log 7, log 8). -/
def State.withFetchWord (s : State) (nbits w : Nat) : State :=
  placeInstruction (leBytes 4 (w % 2 ^ nbits)) (readyToFetch (BitVec.ofNat 8 (w % 2 ^ nbits)) s)

end Sys2Proof.Machine
end

