-- ==== Sys2Proof/Machine/Cartridge.lean ====
section
/-! DEFINITION. Reset (70_reset_and_hazards.md R650, R651) and the cartridge load with its header classification and checksum
(20_memory.md R102-R107, 70_reset_and_hazards.md R654). -/

namespace Sys2Proof.Machine

/-! ### Reset -/

/-- The devices and memory after `reset()`: save RAM and the cartridge are kept (70_reset_and_hazards.md R650). -/
def Bus.reset (b : Bus) : Bus := { sram := b.sram, cart := b.cart }

/-- The scheduler after `reset()`: `running` and the frame sink are kept (70_reset_and_hazards.md R650); IRQ_SOURCE is the
environment's (log 5). -/
def Sched.reset (q : Sched) : Sched :=
  { running := q.running, frameSink := q.frameSink, irqSource := q.irqSource }

/-- `reset()` (70_reset_and_hazards.md R650): last, PC is read from the reset vector at 0x00:FFFC through the bus (R651). -/
def hostReset (s : State) : State :=
  let t : State := { cpu := {}, bus := s.bus.reset, sched := s.sched.reset, params := s.params }
  let r := readWord (.bank0 0xFFFC) t
  setPc r.1 r.2

/-! ### Cartridge load -/

/-- Why a load fails (20_memory.md R103, R106). -/
inductive LoadError where
  | tooSmall
  | unreadableHeader
  deriving DecidableEq, Repr

/-- A copier prefix of 512 bytes is stripped (20_memory.md R102). -/
def stripCopier (bytes : List Byte) : List Byte :=
  if bytes.length % 1024 = 512 then bytes.drop 512 else bytes

/-- Byte `k` of an image. -/
def imageByte (rom : List Byte) (k : Nat) : Byte := rom.getD k 0

/-- Where the header's fields stand from a candidate's base (20_memory.md R105). -/
structure HeaderOffsets where
  title      : Nat
  map        : Nat
  romType    : Nat
  romSize    : Nat
  sram       : Nat
  checksum   : Nat
  complement : Nat

/-- `HEADER_LAYOUT` (20_memory.md R105). -/
def headerOffsets : Layout → HeaderOffsets
  | .document => ⟨0x00, 0x26, 0x25, 0x27, 0x28, 0x2C, 0x2E⟩
  | .console => ⟨0x10, 0x25, 0x26, 0x27, 0x28, 0x2E, 0x2C⟩

/-- A candidate header's fields (20_memory.md R105). -/
structure Header where
  title       : List Byte
  map         : Byte
  romType     : Byte
  romSizeCode : Byte
  sramCode    : Byte
  checksum    : Word
  complement  : Word
  deriving DecidableEq, Repr

/-- The header at base `h` of an image (20_memory.md R105). -/
def readHeader (lay : Layout) (rom : List Byte) (h : Nat) : Header :=
  let o := headerOffsets lay
  { title := (List.range 21).map fun k => imageByte rom (h + o.title + k)
    map := imageByte rom (h + o.map)
    romType := imageByte rom (h + o.romType)
    romSizeCode := imageByte rom (h + o.romSize)
    sramCode := imageByte rom (h + o.sram)
    checksum := wordOf (imageByte rom (h + o.checksum)) (imageByte rom (h + o.checksum + 1))
    complement := wordOf (imageByte rom (h + o.complement)) (imageByte rom (h + o.complement + 1)) }

/-- The base of a mapping's candidate (20_memory.md R104). -/
def headerBase : Mapping → Nat
  | .lowMapped => 0x7FB0
  | .highMapped => 0xFFB0

/-- `map_ok`: the map byte is the mapping's nominal one, bit 4 aside (20_memory.md R104). -/
def Header.mapOk (m : Mapping) (h : Header) : Bool :=
  h.map &&& 0xEF == match m with
    | .lowMapped => 0x20
    | .highMapped => 0x21

/-- `type_ok` (20_memory.md R104). -/
def Header.typeOk (h : Header) : Bool := decide (h.romType.toNat ≤ 0x05)

/-- `sum_ok`: an integer sum, no wrap (20_memory.md R104). -/
def Header.sumOk (h : Header) : Bool := decide (h.checksum.toNat + h.complement.toNat = 0xFFFF)

/-- `title_ok` (20_memory.md R104). -/
def Header.titleOk (h : Header) : Bool :=
  (h.title.all fun t => t == 0x00 || (decide (0x20 ≤ t.toNat) && decide (t.toNat ≤ 0x7E)))
    && h.title.any fun t => decide (0x21 ≤ t.toNat) && decide (t.toNat ≤ 0x7E)

/-- A candidate's score (20_memory.md R104). -/
def Header.score (m : Mapping) (h : Header) : Nat :=
  if h.mapOk m || h.sumOk then 2 * bit (h.mapOk m) + bit h.typeOk + 4 * bit h.sumOk + bit h.titleOk else 0

/-- The score of a mapping's candidate; the high one exists only in an image of 0x10000 bytes or more (20_memory.md R104). -/
def candidateScore (lay : Layout) (rom : List Byte) (m : Mapping) : Nat :=
  if m = .highMapped ∧ rom.length < 0x10000 then 0 else (readHeader lay rom (headerBase m)).score m

/-- The winning mapping, if any candidate scores above 0; ties favour low-mapped (20_memory.md R106). -/
def classify (lay : Layout) (rom : List Byte) : Option Mapping :=
  let low := candidateScore lay rom .lowMapped
  let high := candidateScore lay rom .highMapped
  if low = 0 ∧ high = 0 then none else if low < high then some .highMapped else some .lowMapped

/-- Trailing 0x20 and 0x00 bytes are removed (20_memory.md R106). -/
def trimTitle (t : List Byte) : List Byte :=
  (t.reverse.dropWhile fun b => b == 0x20 || b == 0x00).reverse

/-- `save_ram_size_bytes`: none for code 0, else 1024 << code, at most 0x80000 (20_memory.md R106). -/
def saveRamBytes (code : Byte) : Nat := if code = 0 then 0 else min (1024 * 2 ^ code.toNat) 0x80000

/-- Whether image byte `k` is one of the four checksum and complement bytes of the header at base `h` (20_memory.md R107). -/
def checksumByte (lay : Layout) (h k : Nat) : Bool :=
  let o := headerOffsets lay
  decide (k = h + o.checksum) || decide (k = h + o.checksum + 1)
    || decide (k = h + o.complement) || decide (k = h + o.complement + 1)

/-- The sum of the bytes of an image from index `k` on, without those `skip` names. -/
def sumBytes (skip : Nat → Bool) (k : Nat) : List Byte → Nat
  | [] => 0
  | v :: vs => (if skip k then 0 else v.toNat) + sumBytes skip (k + 1) vs

/-- `computed` (20_memory.md R107). -/
def computedChecksum (lay : Layout) (rom : List Byte) (h : Nat) : Word :=
  BitVec.ofNat 16 (sumBytes (checksumByte lay h) 0 rom)

/-- The cartridge of an image whose winning mapping is `m` (20_memory.md R106, R107). -/
def buildCartridge (lay : Layout) (rom : List Byte) (m : Mapping) : Cartridge :=
  let h := readHeader lay rom (headerBase m)
  { rom := Cells.ofList 0 rom
    romSize := rom.length
    mapping := m
    saveRamSize := saveRamBytes h.sramCode
    title := trimTitle h.title
    romType := h.romType
    romSizeCode := h.romSizeCode
    checksum := h.checksum
    complement := h.complement
    checksumWarning := !(h.checksum == computedChecksum lay rom (headerBase m)) || !h.sumOk }

/-- The machine with a new cartridge in: save RAM zero-filled, then `reset()` (70_reset_and_hazards.md R654). -/
def insertCartridge (c : Cartridge) (s : State) : State :=
  hostReset { s with bus := { s.bus with cart := some c, sram := [] } }

/-- `load_cartridge(bytes)`: an error leaves the machine to the caller unchanged (20_memory.md R102-R107,
60_exceptions.md R631). -/
def loadCartridge (bytes : List Byte) (s : State) : Except LoadError State :=
  let rom := stripCopier bytes
  if rom.length < 0x8000 then .error .tooSmall
  else
    match classify s.params.headerLayout rom with
    | none => .error .unreadableHeader
    | some m => .ok (insertCartridge (buildCartridge s.params.headerLayout rom m) s)

end Sys2Proof.Machine
end

