-- ==== Sys2Proof/Machine/Scheduler.lean ====
section
/-! DEFINITION. The frame scheduler (60_exceptions.md R551, R552, R620-R624), one action at a time and a whole frame. -/

namespace Sys2Proof.Machine

/-- `VblankEntry()`: both flags, and the NMI latch if 0x4200 bit 7 is set at that moment (60_exceptions.md R551). -/
def vblankEntry (s : State) : State :=
  { s with
    bus := { s.bus with inVblank := true, nmiFlag := true }
    cpu := { s.cpu with nmiPending := s.cpu.nmiPending || (s.bus.regAt 0x4200).getLsbD 7 } }

/-- `irq_pending <- IRQ_SOURCE` before a CPU step (60_exceptions.md R552): the next level of the list, none once it is used up
(log 5). -/
def sampleIrq (s : State) : State :=
  { s with
    cpu := { s.cpu with irqPending := s.sched.irqSource.headD false }
    sched := { s.sched with irqSource := s.sched.irqSource.tail } }

/-- `master <- master + c * MASTER_PER_CPU_CYCLE`, where the step returned `c` cycles (60_exceptions.md R620). -/
def addMaster (c : Nat) (s : State) : State :=
  { s with sched := { s.sched with master := s.sched.master + c * s.params.masterPerCpuCycle } }

/-- The end of a frame: steps (f) and the carry into the next frame (60_exceptions.md R621, R622). -/
def frameEnd (s : State) : State :=
  { s with
    bus := { s.bus with inVblank := false }
    sched := { s.sched with master := s.sched.master - Config.frame, frameCount := s.sched.frameCount + 1 } }

/-- What one action of the scheduler was. -/
inductive TickKind where
  /-- `Batch()` ran a CPU step -/
  | batch
  /-- vertical-blank entry; `fb` is the rendered frame and `sink` the callback it was handed to, if one is set -/
  | vblank (fb : List Byte) (sink : Option Nat)
  /-- the frame ended; `run` returns to the host -/
  | frameEnd
  /-- `Batch()` found `running = 0`; `run` returns to the host -/
  | stopped
  deriving DecidableEq, Repr

/-- A scheduler action and the state after it. -/
structure Tick where
  kind  : TickKind
  state : State
  deriving DecidableEq, Repr

/-- `Batch()` with `running = 1`: sample the IRQ level, run one CPU step, advance `master` by the cycles it returned
(60_exceptions.md R621). -/
def batch (s : State) : Host.Outcome Tick Fault Refusal :=
  let s := sampleIrq s
  match step s with
  | .next t => .next ⟨.batch, addMaster (t.cpu.cycles - s.cpu.cycles) t⟩
  | .fault f => .fault f
  | .refused f => .refused f

/-- The next action of `run_frame()` (60_exceptions.md R621). `in_vblank` says which of its two loops the frame is in, since only
the scheduler writes it: set when the first loop ends, cleared when the second does (log 13). -/
def tick (s : State) : Host.Outcome Tick Fault Refusal :=
  if !s.bus.inVblank && decide (Config.vblankStart ≤ s.sched.master) then
    .next ⟨.vblank (s.bus.ppu.renderFrame s.params.colorExpand) s.sched.frameSink, vblankEntry s⟩
  else if s.bus.inVblank && decide (Config.frame ≤ s.sched.master) then .next ⟨.frameEnd, frameEnd s⟩
  else if s.sched.running then batch s
  else .next ⟨.stopped, s⟩

/-- How a run of the scheduler ended. -/
inductive RunEnd where
  | frameBoundary
  | stopped
  /-- the bound on actions was used up; not reached when the parameters are in range (log 13) -/
  | outOfFuel
  deriving DecidableEq, Repr

/-- The state a run of the scheduler leaves, how it ended, and the frames handed to the sink, in order. -/
structure RunResult where
  state  : State
  ending : RunEnd
  frames : List (Nat × List Byte)
  deriving DecidableEq, Repr

/-- The frame a scheduler action hands to the sink, if it does. -/
def TickKind.delivered : TickKind → List (Nat × List Byte)
  | .vblank fb (some k) => [(k, fb)]
  | _ => []

/-- `run_frame()`: scheduler actions until the frame ends or `running` is 0, at most `fuel` of them (60_exceptions.md R621,
R623). -/
def runFrame : Nat → State → Host.Outcome RunResult Fault Refusal
  | 0, s => .next ⟨s, .outOfFuel, []⟩
  | fuel + 1, s =>
    match tick s with
    | .next t =>
      match t.kind with
      | .frameEnd => .next ⟨t.state, .frameBoundary, []⟩
      | .stopped => .next ⟨t.state, .stopped, []⟩
      | k =>
        match runFrame fuel t.state with
        | .next r => .next { r with frames := k.delivered ++ r.frames }
        | .fault f => .fault f
        | .refused f => .refused f
    | .fault f => .fault f
    | .refused f => .refused f

/-- Actions that always suffice for a frame: every batch advances `master` by 1 or more (log 13). -/
def frameFuel : Nat := Config.frame + 2

end Sys2Proof.Machine
end

