-- ==== Sys2Proof/Machine/HostInterface.lean ====
section
/-! DEFINITION. The operations the host calls, between scheduler actions only (60_exceptions.md R630-R637, R601). -/

namespace Sys2Proof.Machine

/-- The twelve buttons, in the order of 10_state.md R81. -/
inductive Button where
  | up
  | down
  | left
  | right
  | a
  | b
  | x
  | y
  | l
  | r
  | start
  | select
  deriving DecidableEq, Repr

/-- A button's bit of `buttons`: its place in the list of 10_state.md R81 (log 18). -/
def Button.index : Button → Nat
  | .up => 0
  | .down => 1
  | .left => 2
  | .right => 3
  | .a => 4
  | .b => 5
  | .x => 6
  | .y => 7
  | .l => 8
  | .r => 9
  | .start => 10
  | .select => 11

/-- `set_button(id, pressed)` (60_exceptions.md R633). -/
def setButton (id : Button) (pressed : Bool) (s : State) : State :=
  let mask : BitVec 12 := BitVec.ofNat 12 (2 ^ id.index)
  { s with sched := { s.sched with
      buttons := if pressed then s.sched.buttons ||| mask else s.sched.buttons &&& ~~~mask } }

/-- `set_frame_sink(fn)` (60_exceptions.md R633). -/
def setFrameSink (sink : Option Nat) (s : State) : State := { s with sched := { s.sched with frameSink := sink } }

/-- `running <- v`: the first act of `run()`, and `stop()` (60_exceptions.md R623). -/
def setRunning (v : Bool) (s : State) : State := { s with sched := { s.sched with running := v } }

/-- `stop()` (60_exceptions.md R623). -/
def hostStop (s : State) : State := setRunning false s

/-- `run()`: `running <- 1`, then one `run_frame()` (60_exceptions.md R623). -/
def hostRun (s : State) : Host.Outcome RunResult Fault Refusal := runFrame frameFuel (setRunning true s)

/-- `fill_audio(left, right)`: silence (60_exceptions.md R601). -/
def fillAudio (left right : List Rat) : List Rat × List Rat := (left.map fun _ => 0, right.map fun _ => 0)

/-! ### Snapshot -/

/-- The cartridge fingerprint: size and checksum (60_exceptions.md R634); none with no cartridge. -/
def fingerprint (s : State) : Option (Nat × Word) := s.bus.cart.map fun c => (c.romSize, c.checksum)

/-- A cartridge without its bytes. -/
def Cartridge.withoutBytes (c : Cartridge) : Cartridge := { c with rom := [] }

/-- A snapshot: every field of 10_state.md except the cartridge bytes, and the fingerprint (60_exceptions.md R634). -/
structure Snapshot where
  cpu         : Cpu
  bus         : Bus
  master      : Nat
  frameCount  : Nat
  running     : Bool
  buttons     : BitVec 12
  frameSink   : Option Nat
  fingerprint : Option (Nat × Word)
  deriving DecidableEq, Repr

/-- `snapshot()` (60_exceptions.md R634). -/
def snapshot (s : State) : Snapshot where
  cpu := s.cpu
  bus := { s.bus with cart := s.bus.cart.map Cartridge.withoutBytes }
  master := s.sched.master
  frameCount := s.sched.frameCount
  running := s.sched.running
  buttons := s.sched.buttons
  frameSink := s.sched.frameSink
  fingerprint := fingerprint s

/-- The cartridge after a `restore`: the snapshot's fields with the loaded image's bytes (log 16). -/
def restoredCart (loaded saved : Option Cartridge) : Option Cartridge :=
  match loaded, saved with
  | some l, some c => some { c with rom := l.rom }
  | _, _ => loaded

/-- `restore(blob)`: it sets every field of the snapshot; a snapshot of another cartridge changes nothing (60_exceptions.md R634,
R635). -/
def restore (b : Snapshot) (s : State) : State :=
  if b.fingerprint = fingerprint s then
    { s with
      cpu := b.cpu
      bus := { b.bus with cart := restoredCart s.bus.cart b.bus.cart }
      sched := { s.sched with
        master := b.master
        frameCount := b.frameCount
        running := b.running
        buttons := b.buttons
        frameSink := b.frameSink } }
  else s

/-! ### A session -/

/-- A call of the host (60_exceptions.md R630), apart from the two that change no state, `snapshot` and `fill_audio`. -/
inductive HostCall where
  | loadCartridge (bytes : List Byte)
  | reset
  /-- the start of `run()`; the scheduler's actions follow as ticks -/
  | run
  | stop
  | setButton (id : Button) (pressed : Bool)
  | setFrameSink (sink : Option Nat)
  | restore (blob : Snapshot)
  deriving DecidableEq, Repr

/-- The state after a host call; a failed load changes nothing (60_exceptions.md R631). -/
def hostCall (c : HostCall) (s : State) : State :=
  match c with
  | .loadCartridge bytes =>
    match loadCartridge bytes s with
    | .ok t => t
    | .error _ => s
  | .reset => hostReset s
  | .run => setRunning true s
  | .stop => hostStop s
  | .setButton id pressed => setButton id pressed s
  | .setFrameSink sink => setFrameSink sink s
  | .restore blob => restore blob s

/-- What happens to the block, one event after another: the host calls, or the scheduler acts (log 19). -/
inductive Event where
  | call (c : HostCall)
  | tick
  deriving DecidableEq, Repr

/-- The state after a list of events. -/
def session : List Event → State → Host.Outcome State Fault Refusal
  | [], s => .next s
  | .call c :: es, s => session es (hostCall c s)
  | .tick :: es, s =>
    match tick s with
    | .next t => session es t.state
    | .fault f => .fault f
    | .refused f => .refused f

end Sys2Proof.Machine
end

