-- ==== Sys2Proof/Safety.lean ====
section
/-! DEFINITION. What a good state is, in the terms claims use: the mode constraints of 10_state.md R41, and the canonical form and
the bounds of every memory. -/

namespace Sys2Proof.Machine

/-- The mode constraints (10_state.md R41): E = 1 implies M = X = 1 and S in page 1; X = 1 implies that the index registers hold 8
bits. -/
structure Cpu.ModeOk (c : Cpu) : Prop where
  emulation_m : c.e = true → c.p.m = true
  emulation_x : c.e = true → c.p.x = true
  emulation_s : c.e = true → highByte c.s = 0x01
  index_x : c.p.x = true → highByte c.x = 0
  index_y : c.p.x = true → highByte c.y = 0

/-- A memory in canonical form, all its keys below `n`. -/
abbrev Cells.ok {w : Nat} (n : Nat) (m : Cells w) : Prop := m.wf ∧ m.below n

/-- Every memory of the bus in canonical form and within its size (10_state.md R50, R51, R53, R60-R62). -/
structure Bus.MemOk (b : Bus) : Prop where
  wram : Cells.ok (w := 8) 131072 b.wram
  sram : Cells.ok (w := 8) b.saveRamSize b.sram
  regs : Cells.ok (w := 8) 16384 b.regs
  vram : Cells.ok 32768 b.ppu.vram
  cgram : Cells.ok 256 b.ppu.cgram
  oam : Cells.ok (w := 8) 544 b.ppu.oam
  rom : ∀ c, b.cart = some c → Cells.ok (w := 8) c.romSize c.rom

/-- A run of `n` CPU steps that neither faults nor is refused. -/
def Safe (n : Nat) (s : State) : Prop :=
  match n with
  | 0 => True
  | n + 1 => ∃ t, step s = .next t ∧ Safe n t

end Sys2Proof.Machine
end

