-- ==== Sys2Proof/Shapes.lean ====
section
/-! DEFINITION. The vocabulary of the statements, which the machine does not use: the instructions of one shape, read off the opcode
map of 30_encoding.md R205, and values and bus accesses written as the rules write them. -/

namespace Sys2Proof.Machine

/-! ### Shapes -/

/-- Operations on an operand that is read: an immediate or a byte or word of memory. -/
inductive ReadOp where
  | ora
  | and
  | eor
  | adc
  | lda
  | cmp
  | sbc
  | ldx
  | ldy
  | cpx
  | cpy
  | bit
  deriving DecidableEq, Repr

/-- What a store stores: A, X, Y or zero. -/
inductive Stored where
  | a
  | x
  | y
  | zero
  deriving DecidableEq, Repr

/-- Operations that read a memory operand and write it back. -/
inductive RmwOp where
  | asl
  | lsr
  | rol
  | ror
  | inc
  | dec
  | tsb
  | trb
  deriving DecidableEq, Repr

/-- The 126 instructions that read an operand and write registers and flags only: ORA, AND, EOR, ADC, LDA, CMP, SBC (15 forms each),
LDX, LDY (5), CPX, CPY (3), BIT (5). -/
def readShape : Instr → Option (ReadOp × Src)
  | .oraDpxind d => some (.ora, .mem (.dpxind d))
  | .oraSr d => some (.ora, .mem (.sr d))
  | .oraDp d => some (.ora, .mem (.dp d))
  | .oraDpindl d => some (.ora, .mem (.dpindl d))
  | .oraImm c => some (.ora, .imm c)
  | .oraAbs a => some (.ora, .mem (.abs a))
  | .oraLong al => some (.ora, .mem (.long al))
  | .oraDpindy d => some (.ora, .mem (.dpindy d))
  | .oraDpind d => some (.ora, .mem (.dpind d))
  | .oraSriy d => some (.ora, .mem (.sriy d))
  | .oraDpx d => some (.ora, .mem (.dpx d))
  | .oraDpindly d => some (.ora, .mem (.dpindly d))
  | .oraAbsy a => some (.ora, .mem (.absy a))
  | .oraAbsx a => some (.ora, .mem (.absx a))
  | .oraLongx al => some (.ora, .mem (.longx al))
  | .andDpxind d => some (.and, .mem (.dpxind d))
  | .andSr d => some (.and, .mem (.sr d))
  | .bitDp d => some (.bit, .mem (.dp d))
  | .andDp d => some (.and, .mem (.dp d))
  | .andDpindl d => some (.and, .mem (.dpindl d))
  | .andImm c => some (.and, .imm c)
  | .bitAbs a => some (.bit, .mem (.abs a))
  | .andAbs a => some (.and, .mem (.abs a))
  | .andLong al => some (.and, .mem (.long al))
  | .andDpindy d => some (.and, .mem (.dpindy d))
  | .andDpind d => some (.and, .mem (.dpind d))
  | .andSriy d => some (.and, .mem (.sriy d))
  | .bitDpx d => some (.bit, .mem (.dpx d))
  | .andDpx d => some (.and, .mem (.dpx d))
  | .andDpindly d => some (.and, .mem (.dpindly d))
  | .andAbsy a => some (.and, .mem (.absy a))
  | .bitAbsx a => some (.bit, .mem (.absx a))
  | .andAbsx a => some (.and, .mem (.absx a))
  | .andLongx al => some (.and, .mem (.longx al))
  | .eorDpxind d => some (.eor, .mem (.dpxind d))
  | .eorSr d => some (.eor, .mem (.sr d))
  | .eorDp d => some (.eor, .mem (.dp d))
  | .eorDpindl d => some (.eor, .mem (.dpindl d))
  | .eorImm c => some (.eor, .imm c)
  | .eorAbs a => some (.eor, .mem (.abs a))
  | .eorLong al => some (.eor, .mem (.long al))
  | .eorDpindy d => some (.eor, .mem (.dpindy d))
  | .eorDpind d => some (.eor, .mem (.dpind d))
  | .eorSriy d => some (.eor, .mem (.sriy d))
  | .eorDpx d => some (.eor, .mem (.dpx d))
  | .eorDpindly d => some (.eor, .mem (.dpindly d))
  | .eorAbsy a => some (.eor, .mem (.absy a))
  | .eorAbsx a => some (.eor, .mem (.absx a))
  | .eorLongx al => some (.eor, .mem (.longx al))
  | .adcDpxind d => some (.adc, .mem (.dpxind d))
  | .adcSr d => some (.adc, .mem (.sr d))
  | .adcDp d => some (.adc, .mem (.dp d))
  | .adcDpindl d => some (.adc, .mem (.dpindl d))
  | .adcImm c => some (.adc, .imm c)
  | .adcAbs a => some (.adc, .mem (.abs a))
  | .adcLong al => some (.adc, .mem (.long al))
  | .adcDpindy d => some (.adc, .mem (.dpindy d))
  | .adcDpind d => some (.adc, .mem (.dpind d))
  | .adcSriy d => some (.adc, .mem (.sriy d))
  | .adcDpx d => some (.adc, .mem (.dpx d))
  | .adcDpindly d => some (.adc, .mem (.dpindly d))
  | .adcAbsy a => some (.adc, .mem (.absy a))
  | .adcAbsx a => some (.adc, .mem (.absx a))
  | .adcLongx al => some (.adc, .mem (.longx al))
  | .bitImm c => some (.bit, .imm c)
  | .ldyImm c => some (.ldy, .imm c)
  | .ldaDpxind d => some (.lda, .mem (.dpxind d))
  | .ldxImm c => some (.ldx, .imm c)
  | .ldaSr d => some (.lda, .mem (.sr d))
  | .ldyDp d => some (.ldy, .mem (.dp d))
  | .ldaDp d => some (.lda, .mem (.dp d))
  | .ldxDp d => some (.ldx, .mem (.dp d))
  | .ldaDpindl d => some (.lda, .mem (.dpindl d))
  | .ldaImm c => some (.lda, .imm c)
  | .ldyAbs a => some (.ldy, .mem (.abs a))
  | .ldaAbs a => some (.lda, .mem (.abs a))
  | .ldxAbs a => some (.ldx, .mem (.abs a))
  | .ldaLong al => some (.lda, .mem (.long al))
  | .ldaDpindy d => some (.lda, .mem (.dpindy d))
  | .ldaDpind d => some (.lda, .mem (.dpind d))
  | .ldaSriy d => some (.lda, .mem (.sriy d))
  | .ldyDpx d => some (.ldy, .mem (.dpx d))
  | .ldaDpx d => some (.lda, .mem (.dpx d))
  | .ldxDpy d => some (.ldx, .mem (.dpy d))
  | .ldaDpindly d => some (.lda, .mem (.dpindly d))
  | .ldaAbsy a => some (.lda, .mem (.absy a))
  | .ldyAbsx a => some (.ldy, .mem (.absx a))
  | .ldaAbsx a => some (.lda, .mem (.absx a))
  | .ldxAbsy a => some (.ldx, .mem (.absy a))
  | .ldaLongx al => some (.lda, .mem (.longx al))
  | .cpyImm c => some (.cpy, .imm c)
  | .cmpDpxind d => some (.cmp, .mem (.dpxind d))
  | .cmpSr d => some (.cmp, .mem (.sr d))
  | .cpyDp d => some (.cpy, .mem (.dp d))
  | .cmpDp d => some (.cmp, .mem (.dp d))
  | .cmpDpindl d => some (.cmp, .mem (.dpindl d))
  | .cmpImm c => some (.cmp, .imm c)
  | .cpyAbs a => some (.cpy, .mem (.abs a))
  | .cmpAbs a => some (.cmp, .mem (.abs a))
  | .cmpLong al => some (.cmp, .mem (.long al))
  | .cmpDpindy d => some (.cmp, .mem (.dpindy d))
  | .cmpDpind d => some (.cmp, .mem (.dpind d))
  | .cmpSriy d => some (.cmp, .mem (.sriy d))
  | .cmpDpx d => some (.cmp, .mem (.dpx d))
  | .cmpDpindly d => some (.cmp, .mem (.dpindly d))
  | .cmpAbsy a => some (.cmp, .mem (.absy a))
  | .cmpAbsx a => some (.cmp, .mem (.absx a))
  | .cmpLongx al => some (.cmp, .mem (.longx al))
  | .cpxImm c => some (.cpx, .imm c)
  | .sbcDpxind d => some (.sbc, .mem (.dpxind d))
  | .sbcSr d => some (.sbc, .mem (.sr d))
  | .cpxDp d => some (.cpx, .mem (.dp d))
  | .sbcDp d => some (.sbc, .mem (.dp d))
  | .sbcDpindl d => some (.sbc, .mem (.dpindl d))
  | .sbcImm c => some (.sbc, .imm c)
  | .cpxAbs a => some (.cpx, .mem (.abs a))
  | .sbcAbs a => some (.sbc, .mem (.abs a))
  | .sbcLong al => some (.sbc, .mem (.long al))
  | .sbcDpindy d => some (.sbc, .mem (.dpindy d))
  | .sbcDpind d => some (.sbc, .mem (.dpind d))
  | .sbcSriy d => some (.sbc, .mem (.sriy d))
  | .sbcDpx d => some (.sbc, .mem (.dpx d))
  | .sbcDpindly d => some (.sbc, .mem (.dpindly d))
  | .sbcAbsy a => some (.sbc, .mem (.absy a))
  | .sbcAbsx a => some (.sbc, .mem (.absx a))
  | .sbcLongx al => some (.sbc, .mem (.longx al))
  | _ => none

/-- The 24 stores: STA (14 forms), STX, STY (3), STZ (4). -/
def storeShape : Instr → Option (Stored × Mode)
  | .stzDp d => some (.zero, .dp d)
  | .stzDpx d => some (.zero, .dpx d)
  | .staDpxind d => some (.a, .dpxind d)
  | .staSr d => some (.a, .sr d)
  | .styDp d => some (.y, .dp d)
  | .staDp d => some (.a, .dp d)
  | .stxDp d => some (.x, .dp d)
  | .staDpindl d => some (.a, .dpindl d)
  | .styAbs a => some (.y, .abs a)
  | .staAbs a => some (.a, .abs a)
  | .stxAbs a => some (.x, .abs a)
  | .staLong al => some (.a, .long al)
  | .staDpindy d => some (.a, .dpindy d)
  | .staDpind d => some (.a, .dpind d)
  | .staSriy d => some (.a, .sriy d)
  | .styDpx d => some (.y, .dpx d)
  | .staDpx d => some (.a, .dpx d)
  | .stxDpy d => some (.x, .dpy d)
  | .staDpindly d => some (.a, .dpindly d)
  | .staAbsy a => some (.a, .absy a)
  | .stzAbs a => some (.zero, .abs a)
  | .staAbsx a => some (.a, .absx a)
  | .stzAbsx a => some (.zero, .absx a)
  | .staLongx al => some (.a, .longx al)
  | _ => none

/-- The 28 read-modify-write instructions: ASL, LSR, ROL, ROR, INC, DEC (4 forms each), TSB, TRB (2). -/
def rmwShape : Instr → Option (RmwOp × Mode)
  | .tsbDp d => some (.tsb, .dp d)
  | .aslDp d => some (.asl, .dp d)
  | .tsbAbs a => some (.tsb, .abs a)
  | .aslAbs a => some (.asl, .abs a)
  | .trbDp d => some (.trb, .dp d)
  | .aslDpx d => some (.asl, .dpx d)
  | .trbAbs a => some (.trb, .abs a)
  | .aslAbsx a => some (.asl, .absx a)
  | .rolDp d => some (.rol, .dp d)
  | .rolAbs a => some (.rol, .abs a)
  | .rolDpx d => some (.rol, .dpx d)
  | .rolAbsx a => some (.rol, .absx a)
  | .lsrDp d => some (.lsr, .dp d)
  | .lsrAbs a => some (.lsr, .abs a)
  | .lsrDpx d => some (.lsr, .dpx d)
  | .lsrAbsx a => some (.lsr, .absx a)
  | .rorDp d => some (.ror, .dp d)
  | .rorAbs a => some (.ror, .abs a)
  | .rorDpx d => some (.ror, .dpx d)
  | .rorAbsx a => some (.ror, .absx a)
  | .decDp d => some (.dec, .dp d)
  | .decAbs a => some (.dec, .abs a)
  | .decDpx d => some (.dec, .dpx d)
  | .decAbsx a => some (.dec, .absx a)
  | .incDp d => some (.inc, .dp d)
  | .incAbs a => some (.inc, .abs a)
  | .incDpx d => some (.inc, .dpx d)
  | .incAbsx a => some (.inc, .absx a)
  | _ => none

/-! ### Encodings -/

/-- Where an accumulator operation's form stands from the operation's first opcode: the lists of the rules' `Encoding` lines
(40_addressing_load_store.md R270, R273; 42_arithmetic_compare.md R332-R334; 43_logical_bit_shift.md R370-R372). -/
def aluOffset : Src → Option Byte
  | .mem (.dpxind _) => some 0x01
  | .mem (.sr _) => some 0x03
  | .mem (.dp _) => some 0x05
  | .mem (.dpindl _) => some 0x07
  | .imm _ => some 0x09
  | .mem (.abs _) => some 0x0D
  | .mem (.long _) => some 0x0F
  | .mem (.dpindy _) => some 0x11
  | .mem (.dpind _) => some 0x12
  | .mem (.sriy _) => some 0x13
  | .mem (.dpx _) => some 0x15
  | .mem (.dpindly _) => some 0x17
  | .mem (.absy _) => some 0x19
  | .mem (.absx _) => some 0x1D
  | .mem (.longx _) => some 0x1F
  | _ => none

/-- The opcode of an accumulator operation's form. -/
def aluOpcode (first : Byte) (src : Src) : Option Byte := (aluOffset src).map (first + ·)

/-- The opcode of a read operation's form, as the `Encoding` line of its rule gives it. -/
def readOpcode (op : ReadOp) (src : Src) : Option Byte :=
  match op, src with
  | .ora, _ => aluOpcode 0x00 src
  | .and, _ => aluOpcode 0x20 src
  | .eor, _ => aluOpcode 0x40 src
  | .adc, _ => aluOpcode 0x60 src
  | .lda, _ => aluOpcode 0xA0 src
  | .cmp, _ => aluOpcode 0xC0 src
  | .sbc, _ => aluOpcode 0xE0 src
  | .ldx, .imm _ => some 0xA2
  | .ldx, .mem (.dp _) => some 0xA6
  | .ldx, .mem (.abs _) => some 0xAE
  | .ldx, .mem (.dpy _) => some 0xB6
  | .ldx, .mem (.absy _) => some 0xBE
  | .ldy, .imm _ => some 0xA0
  | .ldy, .mem (.dp _) => some 0xA4
  | .ldy, .mem (.abs _) => some 0xAC
  | .ldy, .mem (.dpx _) => some 0xB4
  | .ldy, .mem (.absx _) => some 0xBC
  | .cpx, .imm _ => some 0xE0
  | .cpx, .mem (.dp _) => some 0xE4
  | .cpx, .mem (.abs _) => some 0xEC
  | .cpy, .imm _ => some 0xC0
  | .cpy, .mem (.dp _) => some 0xC4
  | .cpy, .mem (.abs _) => some 0xCC
  | .bit, .mem (.dp _) => some 0x24
  | .bit, .mem (.abs _) => some 0x2C
  | .bit, .mem (.dpx _) => some 0x34
  | .bit, .mem (.absx _) => some 0x3C
  | .bit, .imm _ => some 0x89
  | _, _ => none

/-- The opcode of a store's form, as the `Encoding` line of its rule gives it (40_addressing_load_store.md R273-R276). -/
def storeOpcode (r : Stored) (m : Mode) : Option Byte :=
  match r, m with
  | .a, _ => aluOpcode 0x80 (.mem m)
  | .x, .dp _ => some 0x86
  | .x, .abs _ => some 0x8E
  | .x, .dpy _ => some 0x96
  | .y, .dp _ => some 0x84
  | .y, .abs _ => some 0x8C
  | .y, .dpx _ => some 0x94
  | .zero, .dp _ => some 0x64
  | .zero, .dpx _ => some 0x74
  | .zero, .abs _ => some 0x9C
  | .zero, .absx _ => some 0x9E
  | _, _ => none

/-- Where the form of a shift, an increment or a decrement of memory stands from the operation's first opcode. -/
def rmwOffset : Mode → Option Byte
  | .dp _ => some 0x06
  | .abs _ => some 0x0E
  | .dpx _ => some 0x16
  | .absx _ => some 0x1E
  | _ => none

/-- The opcode of a read-modify-write's form, as the `Encoding` line of its rule gives it (42_arithmetic_compare.md R338, R340;
43_logical_bit_shift.md R375, R376, R378-R381). -/
def rmwOpcode (op : RmwOp) (m : Mode) : Option Byte :=
  match op, m with
  | .asl, _ => (rmwOffset m).map (0x00 + ·)
  | .rol, _ => (rmwOffset m).map (0x20 + ·)
  | .lsr, _ => (rmwOffset m).map (0x40 + ·)
  | .ror, _ => (rmwOffset m).map (0x60 + ·)
  | .dec, _ => (rmwOffset m).map (0xC0 + ·)
  | .inc, _ => (rmwOffset m).map (0xE0 + ·)
  | .tsb, .dp _ => some 0x04
  | .tsb, .abs _ => some 0x0C
  | .trb, .dp _ => some 0x14
  | .trb, .abs _ => some 0x1C
  | _, _ => none

/-! ### Values -/

/-- `mask(w)` (00_scope.md R12). -/
def Width.ones : Width → Word
  | .w8 => 0x00FF
  | .w16 => 0xFFFF

/-- Bytes of a width. -/
def Width.bytes : Width → Nat
  | .w8 => 1
  | .w16 => 2

/-- The accumulator after `SetA(v, w)` (40_addressing_load_store.md R269). -/
def spliceA (w : Width) (v a : Word) : Word :=
  match w with
  | .w8 => (a &&& 0xFF00) ||| (v &&& 0x00FF)
  | .w16 => v

/-- The status after `SetNZ_w(v)` (00_scope.md R15). -/
def nzOf (w : Width) (v : Word) (p : Status) : Status := { p with n := v.getLsbD (w.bits - 1), z := decide (v = 0) }

/-- A carry as a word. -/
def carryWord (c : Bool) : Word := if c then 1 else 0

/-- `ShiftOp` (43_logical_bit_shift.md R377). -/
def shiftSpec (op : Shift) (v : Word) (c : Bool) (w : Width) : Word × Bool :=
  match op with
  | .asl => ((v <<< 1) &&& w.ones, v.getLsbD (w.bits - 1))
  | .lsr => (v >>> 1, v.getLsbD 0)
  | .rol => (((v <<< 1) ||| carryWord c) &&& w.ones, v.getLsbD (w.bits - 1))
  | .ror => ((v >>> 1) ||| (carryWord c <<< (w.bits - 1)), v.getLsbD 0)

/-- A width-w value read as a two's-complement number. -/
def signedValue (w : Width) (v : Word) : Int :=
  if v.getLsbD (w.bits - 1) then (v.toNat : Int) - 2 ^ w.bits else v.toNat

/-- Whether a number lies outside the signed range of a width. -/
def outsideSigned (w : Width) (n : Int) : Bool := decide (n < -2 ^ (w.bits - 1) ∨ 2 ^ (w.bits - 1) ≤ n)

/-- Decimal digit `k` of packed BCD. -/
def bcdDigit (v : Word) (k : Nat) : Nat := v.toNat / 16 ^ k % 16

/-- Packed BCD of a width: every digit at most 9, nothing above the width. -/
def ValidBcd (w : Width) (v : Word) : Prop := v &&& w.ones = v ∧ ∀ k < 4, bcdDigit v k ≤ 9

/-- The number a packed BCD value stands for. -/
def bcdValue (v : Word) : Nat := bcdDigit v 0 + 10 * bcdDigit v 1 + 100 * bcdDigit v 2 + 1000 * bcdDigit v 3

/-- `10^n` for the n decimal digits of a width. -/
def Width.decimals : Width → Nat
  | .w8 => 100
  | .w16 => 10000

/-- The number little-endian bytes stand for. -/
def leNat : List Byte → Nat
  | [] => 0
  | b :: bs => b.toNat + 256 * leNat bs

/-- A CPU whose status becomes `p`, with `EnforceModes()` (10_state.md R40). -/
def withStatus (p : Status) (c : Cpu) : Cpu :=
  { c with
    p := if c.e then { p with m := true, x := true } else p
    s := if c.e then 0x0100 ||| (c.s &&& 0x00FF) else c.s
    x := if c.e || p.x then c.x &&& 0x00FF else c.x
    y := if c.e || p.x then c.y &&& 0x00FF else c.y }

/-! ### Bus accesses -/

/-- Read `n` bytes in increasing order of `k`, byte `k` at `at_ k`, from byte `k` on: the number they stand for, little-endian, and
the state after (00_scope.md R14). -/
def readNat (at_ : Nat → Addr) : Nat → Nat → State → Nat × State
  | 0, _, s => (0, s)
  | n + 1, k, s =>
    let r := rd8 (at_ k) s
    let q := readNat at_ n (k + 1) r.2
    (r.1.toNat + 256 * q.1, q.2)

/-- `MemRead(a, n)` (00_scope.md R14). -/
def memRead (a n : Nat) (s : State) : Nat × State := readNat (fun k => BitVec.ofNat 24 (a + k)) n 0 s

/-- `MemRead0(a, n)` (00_scope.md R14). -/
def memRead0 (a n : Nat) (s : State) : Nat × State := readNat (fun k => BitVec.ofNat 24 ((a + k) % 65536)) n 0 s

/-- `Read(ea, n)` (00_scope.md R14). -/
def readAt (e : Ea) (n : Nat) (s : State) : Nat × State :=
  match e with
  | .lin a => memRead a.toNat n s
  | .bank0 o => memRead0 o.toNat n s

/-- The bus after `Write(ea, w / 8, v)`, the low byte first (00_scope.md R14). -/
def storeAt (e : Ea) (w : Width) (v : Word) (s : State) : Bus :=
  let lay := s.params.dmaLayout
  match e, w with
  | .lin a, .w8 => s.bus.wr8 lay a (lowByte v)
  | .lin a, .w16 => (s.bus.wr8 lay a (lowByte v)).wr8 lay (a + 1) (highByte v)
  | .bank0 o, .w8 => s.bus.wr8 lay (addrOf 0 o) (lowByte v)
  | .bank0 o, .w16 => (s.bus.wr8 lay (addrOf 0 o) (lowByte v)).wr8 lay (addrOf 0 (o + 1)) (highByte v)

/-- The stack slot of byte `k` of a push that starts with stack pointer `sp`, k = 0 first; for k = the number of bytes, the stack
pointer after it (45_stack.md R450). -/
def slotDown (e : Bool) (sp : Word) (k : Nat) : Word :=
  if e ∧ k ≠ 0 then 0x0100 ||| ((sp - BitVec.ofNat 16 k) &&& 0x00FF) else sp - BitVec.ofNat 16 k

/-- The stack slot of byte `k` of a pull that starts with stack pointer `sp`, k = 1 first; for the last byte, also the stack pointer
after it (45_stack.md R450). -/
def slotUp (e : Bool) (sp : Word) (k : Nat) : Word :=
  if e then 0x0100 ||| ((sp + BitVec.ofNat 16 k) &&& 0x00FF) else sp + BitVec.ofNat 16 k

/-- The bus after bytes are pushed, from slot `k` on. -/
def pushBus (lay : Layout) (e : Bool) (sp : Word) : Nat → List Byte → Bus → Bus
  | _, [], b => b
  | k, v :: vs, b => pushBus lay e sp (k + 1) vs (b.wr8 lay (addrOf 0 (slotDown e sp k)) v)

/-- The state after bytes are pushed, the first one first: the writes to their slots, and S (45_stack.md R450). -/
def pushed (vs : List Byte) (s : State) : State :=
  { s with
    bus := pushBus s.params.dmaLayout s.cpu.e s.cpu.s 0 vs s.bus
    cpu := { s.cpu with s := slotDown s.cpu.e s.cpu.s vs.length } }

/-- Bytes pulled from slot `k` on, `n` of them, and the bus after. -/
def pullBus (e : Bool) (sp : Word) : Nat → Nat → Bus → List Byte × Bus
  | _, 0, b => ([], b)
  | k, n + 1, b =>
    let r := b.rd8 (addrOf 0 (slotUp e sp k))
    let q := pullBus e sp (k + 1) n r.2
    (r.1 :: q.1, q.2)

/-- The `n` bytes pulled, n at least 1, the first one first, and the state after (45_stack.md R450). -/
def pulled (n : Nat) (s : State) : List Byte × State :=
  let r := pullBus s.cpu.e s.cpu.s 1 n s.bus
  (r.1, { s with bus := r.2, cpu := { s.cpu with s := slotUp s.cpu.e s.cpu.s n } })

/-- A target whose read leaves what every later read gives as it is: all but the registers 0x2139, 0x213A, 0x213B and 0x4210
(20_memory.md R153; a read of an unmapped address or of save-RAM that is not there counts a warning). -/
def Target.quiet : Target → Bool
  | .reg off => !(off == 0x2139 || off == 0x213A || off == 0x213B || off == 0x4210)
  | _ => true

/-- Whether a target is a register. -/
def Target.isReg : Target → Bool
  | .reg _ => true
  | _ => false

/-- Whether stack slot `o` lies in work-RAM: offset below 0x2000 of bank 0 (20_memory.md R110, R111). -/
abbrev InWorkRam (o : Word) : Prop := o.toNat < 0x2000

/-! ### DMA -/

/-- How far byte `i` of a transfer stands from the channel's first B-bus register, by the mode's pattern (20_memory.md R143). -/
def dmaStride (mode i : Nat) : Nat :=
  match mode with
  | 0 | 2 | 6 => 0
  | 1 | 5 => i % 2
  | 4 => i % 4
  | _ => i % 4 / 2

/-- The B-bus register of byte `i` (20_memory.md R142). -/
def dmaReg (c : Channel) (i : Nat) : Nat := 0x2100 + (c.breg.toNat + dmaStride c.mode i) % 256

/-- The A-bus address of byte `i`: the offset goes up by one a byte in its bank, unless it is fixed (20_memory.md R142). -/
def dmaAddr (c : Channel) (i : Nat) : Addr := addrOf c.aBank (if c.fixed then c.aOff else c.aOff + BitVec.ofNat 16 i)

/-- The byte on the A-bus for byte `i`: 0 from a register, else what a bus read gives (20_memory.md R142). -/
def dmaSource (c : Channel) (i : Nat) (b : Bus) : Byte :=
  match b.target (dmaAddr c i) with
  | .reg _ => 0
  | _ => (b.rd8 (dmaAddr c i)).1

/-- The bus after the B-bus reads of the first `n` bytes, in order. -/
def dmaReads (c : Channel) (n : Nat) (b : Bus) : Bus :=
  (List.range n).foldl (fun b i => (b.readReg (dmaReg c i)).2) b

/-- Whether a target is a byte of work-RAM, or of save-RAM that is there. -/
def Bus.holdsRam (b : Bus) : Target → Bool
  | .wram _ => true
  | .sram k => decide (k < b.saveRamSize)
  | _ => false

end Sys2Proof.Machine
end

