-- ==== Sys2Proof/Certificates/Slice0/Obligations.lean ====
section
/-! DEFINITION. The statements for the provers. Rule numbers are those of spec/. A statement of a rule that the spec marks as its own
decision or derivation says so in OBLIGATIONS.json. `{ s with … }` names every field an instruction writes, so each result statement
is also the instruction's frame; `exec` runs with PC already past the instruction's bytes. -/

open Sys2Proof Sys2Proof.Machine

/-! ### Encoding -/

/-- R200-R204: decoding what the encoder wrote gives the instruction back and the bytes that follow, at every width and operand. -/
def Obligations.DecodeOfEncode : Prop :=
  ∀ (m x : Bool) (i : Instr) (rest : List Byte), i.wellFormed m x = true →
    decode m x (encode m x i ++ rest) = .ok (i, rest)

/-- R200-R207: what the decoder reads is well formed, and its encoding is the bytes read: no bit of an instruction is dropped. -/
def Obligations.EncodeOfDecode : Prop :=
  ∀ (m x : Bool) (bytes : List Byte) (i : Instr) (rest : List Byte), decode m x bytes = .ok (i, rest) →
    i.wellFormed m x = true ∧ encode m x i ++ rest = bytes

/-- R204, R207: every opcode byte starts an instruction, no two instructions share one, and only the eight `immM` and the four `immX`
opcodes have a length that depends on a width flag: 2 bytes when it is 1, 3 when it is 0. -/
def Obligations.OpcodeMap : Prop :=
  (∀ (m x : Bool) (op b1 b2 b3 : Byte) (rest : List Byte),
    ∃ i r, decode m x (op :: b1 :: b2 :: b3 :: rest) = .ok (i, r) ∧ i.opcode = op) ∧
  (∀ (m x : Bool) (i : Instr),
    (encode m x i).length =
      if i.opcode ∈ ([0x09, 0x29, 0x49, 0x69, 0x89, 0xA9, 0xC9, 0xE9] : List Byte) then (if m then 2 else 3)
      else if i.opcode ∈ ([0xA0, 0xA2, 0xC0, 0xE0] : List Byte) then (if x then 2 else 3)
      else (encode true true i).length) ∧
  (∀ (i j : Instr) (m x : Bool), i.opcode = j.opcode → i.operandBytes m x = j.operandBytes m x →
    i.wellFormed m x = true → j.wellFormed m x = true → i = j)

/-- R202, R205: words written out from the opcode map, one or more of each of the 28 operand formats of R202, the first byte the least
significant. -/
def Obligations.SampleWords : Prop :=
  decodeTableWord 8 0xEA = some .nop ∧
  decodeTableWord 8 0x1A = some .incAcc ∧
  decodeTableWord 16 0x42A9 = some (.ldaImm 0x0042) ∧
  decode false true [0xA9, 0x34, 0x12] = .ok (.ldaImm 0x1234, []) ∧
  decode true false [0xA2, 0x00, 0x80] = .ok (.ldxImm 0x8000, []) ∧
  decodeTableWord 16 0x20C2 = some (.repImm 0x20) ∧
  decodeTableWord 16 0x0700 = some (.brkSig 0x07) ∧
  decodeTableWord 24 0x1234F4 = some (.peaImm16 0x1234) ∧
  decodeTableWord 16 0x3385 = some (.staDp 0x33) ∧
  decodeTableWord 16 0x44F6 = some (.incDpx 0x44) ∧
  decodeTableWord 16 0x1096 = some (.stxDpy 0x10) ∧
  decodeTableWord 16 0x5532 = some (.andDpind 0x55) ∧
  decodeTableWord 16 0x6607 = some (.oraDpindl 0x66) ∧
  decodeTableWord 16 0x7741 = some (.eorDpxind 0x77) ∧
  decodeTableWord 16 0x8871 = some (.adcDpindy 0x88) ∧
  decodeTableWord 16 0x99F7 = some (.sbcDpindly 0x99) ∧
  decodeTableWord 16 0xAAC3 = some (.cmpSr 0xAA) ∧
  decodeTableWord 16 0x20B3 = some (.ldaSriy 0x20) ∧
  decodeTableWord 24 0x21008D = some (.staAbs 0x2100) ∧
  decodeTableWord 24 0xBBCC7E = some (.rorAbsx 0xBBCC) ∧
  decodeTableWord 24 0xDDEEBE = some (.ldxAbsy 0xDDEE) ∧
  decodeTableWord 32 0x7F12345C = some (.jmlLong 0x7F1234) ∧
  decodeTableWord 32 0x7E0500BF = some (.ldaLongx 0x7E0500) ∧
  decodeTableWord 24 0x80016C = some (.jmpAbsind 0x8001) ∧
  decodeTableWord 24 0x0010DC = some (.jmlAbsindl 0x0010) ∧
  decodeTableWord 24 0x8002FC = some (.jsrAbsxind 0x8002) ∧
  decodeTableWord 16 0xFED0 = some (.bneRel 0xFE) ∧
  decodeTableWord 24 0xFFFD82 = some (.brlRell 0xFFFD) ∧
  decodeTableWord 24 0x7F7E54 = some (.mvnBm 0x7E 0x7F)

/-! ### Fetch and step -/

/-- R15, R36, R213: fetching n bytes advances PC by n modulo 2^16 and changes neither PB nor any other register; where the code does
not lie in a register with a read side effect, byte k is the byte at PB:(PC + k). -/
def Obligations.FetchReadsAtProgramCounter : Prop :=
  ∀ (n : Nat) (s : State),
    (fetchBytes n s).2 =
      { s with cpu := { s.cpu with pc := s.cpu.pc + BitVec.ofNat 16 n }, bus := (fetchBytes n s).2.bus } ∧
    ((∀ k < n, (s.bus.target (addrOf s.cpu.pb (s.cpu.pc + BitVec.ofNat 16 k))).quiet = true) →
      (fetchBytes n s).1 =
        (List.range n).map fun k => (s.bus.rd8 (addrOf s.cpu.pb (s.cpu.pc + BitVec.ofNat 16 k))).1)

/-- R210-R215: a step that is not idle and takes no interrupt, where the bytes at the program counter decode to `i`, is `exec i` at the
state after their fetch; `finish` then adds the base cycles of the opcode and the cost of the DMA. -/
def Obligations.StepRunsTheDecodedInstruction : Prop :=
  ∀ (i : Instr) (bytes : List Byte) (s : State),
    s.cpu.stopped = false → pendingInterrupt s.cpu = none → (s.cpu.waiting = true → s.cpu.irqPending = true) →
    i.opcode ∉ s.params.unimplemented →
    let s0 : State := { s with cpu := { s.cpu with waiting := false }, bus := { s.bus with dmaBytes := 0 } }
    (fetchBytes bytes.length s0).1 = bytes → decode s.cpu.p.m s.cpu.p.x bytes = .ok (i, []) →
    step s = finish (baseCycles i.opcode) (exec i (fetchBytes bytes.length s0).2) ∧
    ∀ t, finish (baseCycles i.opcode) (.next t) =
      .next { t with cpu := { t.cpu with
        cycles := t.cpu.cycles + (baseCycles i.opcode + t.params.dmaCyclesPerByte * t.bus.dmaBytes) } }

/-- R212, R214, R553: what a step does that executes no instruction: stopped, an NMI before an IRQ, waiting, and an opcode that is not
implemented. -/
def Obligations.StepsWithoutAnInstruction : Prop :=
  ∀ s : State,
    let idle : State := { s with cpu := { s.cpu with cycles := s.cpu.cycles + s.params.idleStepCycles } }
    (s.cpu.stopped = true → step s = .next idle) ∧
    (s.cpu.stopped = false → s.cpu.nmiPending = true → step s = .next (interruptStep .nmi s)) ∧
    (s.cpu.stopped = false → s.cpu.nmiPending = false → s.cpu.irqPending = true → s.cpu.p.i = false →
      step s = .next (interruptStep .irq s)) ∧
    (s.cpu.stopped = false → s.cpu.nmiPending = false → s.cpu.irqPending = false → s.cpu.waiting = true →
      step s = .next idle) ∧
    (s.cpu.stopped = false → s.cpu.nmiPending = false → (s.cpu.irqPending = true → s.cpu.p.i = true) →
      (s.cpu.waiting = true → s.cpu.irqPending = true) →
      let r := ({ s.bus with dmaBytes := 0 } : Bus).rd8 (addrOf s.cpu.pb s.cpu.pc)
      r.1 ∈ s.params.unimplemented →
      step s = .next { s with
        bus := r.2
        cpu := { s.cpu with
          waiting := false
          pc := s.cpu.pc + 1
          decodeMisses := s.cpu.decodeMisses + 1
          cycles := s.cpu.cycles + 2 } })

/-! ### Operands -/

/-- R252-R266: the effective address of every mode, its pointer read little-endian from bank 0; index additions to a linear address
carry into the bank. -/
def Obligations.EffectiveAddresses : Prop :=
  ∀ s : State,
    (∀ d : Byte,
      let dp := s.cpu.d.toNat + d.toNat
      let sp := s.cpu.s.toNat + d.toNat
      let db := 65536 * s.cpu.db.toNat
      let y := s.cpu.y.toNat
      effAddr (.dp d) s = (.bank0 (BitVec.ofNat 16 dp), s) ∧
      effAddr (.dpx d) s = (.bank0 (BitVec.ofNat 16 (dp + s.cpu.x.toNat)), s) ∧
      effAddr (.dpy d) s = (.bank0 (BitVec.ofNat 16 (dp + y)), s) ∧
      effAddr (.dpind d) s = (.lin (BitVec.ofNat 24 (db + (memRead0 dp 2 s).1)), (memRead0 dp 2 s).2) ∧
      effAddr (.dpindl d) s = (.lin (BitVec.ofNat 24 (memRead0 dp 3 s).1), (memRead0 dp 3 s).2) ∧
      effAddr (.dpxind d) s =
        (.lin (BitVec.ofNat 24 (db + (memRead0 (dp + s.cpu.x.toNat) 2 s).1)), (memRead0 (dp + s.cpu.x.toNat) 2 s).2) ∧
      effAddr (.dpindy d) s = (.lin (BitVec.ofNat 24 (db + (memRead0 dp 2 s).1 + y)), (memRead0 dp 2 s).2) ∧
      effAddr (.dpindly d) s = (.lin (BitVec.ofNat 24 ((memRead0 dp 3 s).1 + y)), (memRead0 dp 3 s).2) ∧
      effAddr (.sr d) s = (.bank0 (BitVec.ofNat 16 sp), s) ∧
      effAddr (.sriy d) s = (.lin (BitVec.ofNat 24 (db + (memRead0 sp 2 s).1 + y)), (memRead0 sp 2 s).2)) ∧
    (∀ a : Word,
      let ea := 65536 * s.cpu.db.toNat + a.toNat
      effAddr (.abs a) s = (.lin (BitVec.ofNat 24 ea), s) ∧
      effAddr (.absx a) s = (.lin (BitVec.ofNat 24 (ea + s.cpu.x.toNat)), s) ∧
      effAddr (.absy a) s = (.lin (BitVec.ofNat 24 (ea + s.cpu.y.toNat)), s)) ∧
    (∀ al : Addr,
      effAddr (.long al) s = (.lin al, s) ∧
      effAddr (.longx al) s = (.lin (BitVec.ofNat 24 (al.toNat + s.cpu.x.toNat)), s))

/-- R14, R250, R251, R267, R268: the value of a read operand, and that reading it changes the bus at most. -/
def Obligations.OperandValues : Prop :=
  ∀ (w : Width) (s : State),
    (∀ c : Word, operand (.imm c) w s = (c &&& w.ones, s)) ∧
    operand .acc w s = (s.cpu.a &&& w.ones, s) ∧
    (∀ m : Mode,
      let e := effAddr m s
      let r := readAt e.1 w.bytes e.2
      operand (.mem m) w s = (BitVec.ofNat 16 r.1, r.2) ∧
      e.2 = { s with bus := e.2.bus } ∧
      r.2 = { s with bus := r.2.bus })

/-! ### Reading instructions -/

/-- R270, R271, R272: LDA, LDX and LDY in every form complete: the register takes the operand at the width of its flag (A.h is kept at
8 bits), N and Z follow it, and nothing else changes but by the reads. -/
def Obligations.Loads : Prop :=
  ∀ (i : Instr) (src : Src) (s : State),
    let wm := widthOf s.cpu.p.m
    let wx := widthOf s.cpu.p.x
    let rm := operand src wm s
    let rx := operand src wx s
    (readShape i = some (.lda, src) → readOpcode .lda src = some i.opcode ∧ exec i s = .next { s with
      bus := rm.2.bus
      cpu := { s.cpu with a := spliceA wm rm.1 s.cpu.a, p := nzOf wm rm.1 s.cpu.p } }) ∧
    (readShape i = some (.ldx, src) → readOpcode .ldx src = some i.opcode ∧ exec i s = .next { s with
      bus := rx.2.bus
      cpu := { s.cpu with x := rx.1 &&& wx.ones, p := nzOf wx rx.1 s.cpu.p } }) ∧
    (readShape i = some (.ldy, src) → readOpcode .ldy src = some i.opcode ∧ exec i s = .next { s with
      bus := rx.2.bus
      cpu := { s.cpu with y := rx.1 &&& wx.ones, p := nzOf wx rx.1 s.cpu.p } })

/-- R370, R371, R372: AND, ORA and EOR in every form complete with their result in A and its N and Z. -/
def Obligations.LogicalOperations : Prop :=
  ∀ (i : Instr) (src : Src) (s : State),
    let w := widthOf s.cpu.p.m
    let r := operand src w s
    let a := s.cpu.a &&& w.ones
    let result (v : Word) : Result := .next { s with
      bus := r.2.bus
      cpu := { s.cpu with a := spliceA w v s.cpu.a, p := nzOf w v s.cpu.p } }
    (readShape i = some (.and, src) → readOpcode .and src = some i.opcode ∧ exec i s = result (a &&& r.1)) ∧
    (readShape i = some (.ora, src) → readOpcode .ora src = some i.opcode ∧ exec i s = result (a ||| r.1)) ∧
    (readShape i = some (.eor, src) → readOpcode .eor src = some i.opcode ∧ exec i s = result (a ^^^ r.1))

/-- R332, R333: ADC and SBC in every form complete: the adder of P.D gives result, carry and overflow; SBC adds the complement when
P.D = 0. -/
def Obligations.AddAndSubtract : Prop :=
  ∀ (i : Instr) (src : Src) (s : State),
    let w := widthOf s.cpu.p.m
    let r := operand src w s
    let a := s.cpu.a &&& w.ones
    let result (o : AluOut) : Result := .next { s with
      bus := r.2.bus
      cpu := { s.cpu with
        a := spliceA w o.r s.cpu.a
        p := { nzOf w o.r s.cpu.p with c := o.c, v := o.v } } }
    (readShape i = some (.adc, src) → readOpcode .adc src = some i.opcode ∧
      exec i s = result (if s.cpu.p.d then addDec a r.1 s.cpu.p.c w false else addBin a r.1 s.cpu.p.c w)) ∧
    (readShape i = some (.sbc, src) → readOpcode .sbc src = some i.opcode ∧
      exec i s = result (if s.cpu.p.d then addDec a r.1 s.cpu.p.c w true
        else addBin a (r.1 ^^^ w.ones) s.cpu.p.c w))

/-- R330: the binary adder is exact addition cut to the width; carry is what does not fit, overflow is a signed sum out of range; with
the complemented operand it is `a - b - (1 - c)`, carry meaning no borrow. -/
def Obligations.BinaryAdder : Prop :=
  ∀ (w : Width) (a b : Word) (c : Bool), a &&& w.ones = a → b &&& w.ones = b →
    let o := addBin a b c w
    let n := a.toNat + b.toNat + (if c then 1 else 0)
    let d := addBin a (b ^^^ w.ones) c w
    let k : Int := (a.toNat : Int) - b.toNat - (if c then 0 else 1)
    o.r.toNat = n % 2 ^ w.bits ∧
    o.c = decide (2 ^ w.bits ≤ n) ∧
    o.v = outsideSigned w (signedValue w a + signedValue w b + (if c then 1 else 0)) ∧
    (d.r.toNat : Int) = k % 2 ^ w.bits ∧
    d.c = decide (0 ≤ k) ∧
    d.v = outsideSigned w (signedValue w a - signedValue w b - (if c then 0 else 1))

/-- R345 (3): on valid BCD operands the decimal adder is decimal addition and subtraction, with its carry and borrow. -/
def Obligations.DecimalAdder : Prop :=
  ∀ (w : Width) (a b : Word) (c : Bool), ValidBcd w a → ValidBcd w b →
    let o := addDec a b c w false
    let n := bcdValue a + bcdValue b + (if c then 1 else 0)
    let d := addDec a b c w true
    let k : Int := (bcdValue a : Int) - bcdValue b - (if c then 0 else 1)
    ValidBcd w o.r ∧
    bcdValue o.r = n % w.decimals ∧
    o.c = decide (w.decimals ≤ n) ∧
    ValidBcd w d.r ∧
    (bcdValue d.r : Int) = k % w.decimals ∧
    d.c = decide (0 ≤ k)

/-- R334, R335, R336: CMP, CPX and CPY in every form complete: C is register >= operand, N and Z are of the difference, and no register
changes. -/
def Obligations.Compares : Prop :=
  ∀ (i : Instr) (src : Src) (s : State),
    let result (w : Width) (reg : Word) : Result :=
      let r := operand src w s
      let a := reg &&& w.ones
      .next { s with
        bus := r.2.bus
        cpu := { s.cpu with p := { nzOf w ((a - r.1) &&& w.ones) s.cpu.p with c := decide (r.1.toNat ≤ a.toNat) } } }
    (readShape i = some (.cmp, src) → readOpcode .cmp src = some i.opcode ∧ exec i s = result (widthOf s.cpu.p.m) s.cpu.a) ∧
    (readShape i = some (.cpx, src) → readOpcode .cpx src = some i.opcode ∧ exec i s = result (widthOf s.cpu.p.x) s.cpu.x) ∧
    (readShape i = some (.cpy, src) → readOpcode .cpy src = some i.opcode ∧ exec i s = result (widthOf s.cpu.p.x) s.cpu.y)

/-- R373, R374: BIT completes: Z is of A AND the operand; a memory operand gives N and V its two top bits, an immediate leaves them. -/
def Obligations.BitTests : Prop :=
  ∀ (i : Instr) (s : State),
    let w := widthOf s.cpu.p.m
    let z (v : Word) : Bool := decide (s.cpu.a &&& w.ones &&& v = 0)
    (∀ m : Mode, readShape i = some (.bit, .mem m) → readOpcode .bit (.mem m) = some i.opcode ∧
      let r := operand (.mem m) w s
      exec i s = .next { s with
        bus := r.2.bus
        cpu := { s.cpu with p := { s.cpu.p with
          z := z r.1
          n := r.1.getLsbD (w.bits - 1)
          v := r.1.getLsbD (w.bits - 2) } } }) ∧
    (∀ c : Word, readShape i = some (.bit, .imm c) → i.opcode = 0x89 ∧
      exec i s = .next { s with cpu := { s.cpu with p := { s.cpu.p with z := z (c &&& w.ones) } } })

/-- Frame of the 126 reading instructions: they complete, and every byte whose read has no side effect, every register of the flat
array, every VRAM word and palette entry reads as before. -/
def Obligations.ReadingFrame : Prop :=
  ∀ (i : Instr) (op : ReadOp) (src : Src) (s : State), readShape i = some (op, src) →
    ∃ t, exec i s = .next t ∧
      (∀ a, (s.bus.target a).quiet = true → (rd8 a t).1 = (rd8 a s).1) ∧
      (∀ off, t.bus.regAt off = s.bus.regAt off) ∧
      (∀ k, t.bus.ppu.vramWord k = s.bus.ppu.vramWord k) ∧
      t.bus.ppu.cgram = s.bus.ppu.cgram ∧ t.bus.ppu.oam = s.bus.ppu.oam ∧ t.bus.cart = s.bus.cart ∧
      t.sched = s.sched ∧ t.params = s.params

/-! ### Storing instructions -/

/-- R273-R276: STA, STX, STY and STZ in every form complete: the value is written at the effective address at the width of P.M (A, zero)
or P.X (X, Y), and no register or flag changes. -/
def Obligations.Stores : Prop :=
  ∀ (i : Instr) (m : Mode) (s : State),
    let e := effAddr m s
    let result (w : Width) (v : Word) : Result := .next { s with bus := storeAt e.1 w (v &&& w.ones) e.2 }
    (storeShape i = some (.a, m) → storeOpcode .a m = some i.opcode ∧ exec i s = result (widthOf s.cpu.p.m) s.cpu.a) ∧
    (storeShape i = some (.x, m) → storeOpcode .x m = some i.opcode ∧ exec i s = result (widthOf s.cpu.p.x) s.cpu.x) ∧
    (storeShape i = some (.y, m) → storeOpcode .y m = some i.opcode ∧ exec i s = result (widthOf s.cpu.p.x) s.cpu.y) ∧
    (storeShape i = some (.zero, m) → storeOpcode .zero m = some i.opcode ∧ exec i s = result (widthOf s.cpu.p.m) 0)

/-- R338, R340, R375, R376, R378-R381: the memory forms of INC, DEC, TSB, TRB, ASL, LSR, ROL and ROR complete: the effective address
once, the whole read, the write of the result, then the flags the rule names. -/
def Obligations.ReadModifyWrite : Prop :=
  ∀ (i : Instr) (m : Mode) (s : State),
    let w := widthOf s.cpu.p.m
    let e := effAddr m s
    let r := operand (.mem m) w s
    let v := r.1
    let a := s.cpu.a &&& w.ones
    let result (u : Word) (p : Status) : Result := .next { s with bus := storeAt e.1 w u r.2, cpu := { s.cpu with p := p } }
    let shifted (op : Shift) : Result :=
      let q := shiftSpec op v s.cpu.p.c w
      result q.1 { nzOf w q.1 s.cpu.p with c := q.2 }
    let up := (v + 1) &&& w.ones
    let down := (v - 1) &&& w.ones
    let test : Status := { s.cpu.p with z := decide (a &&& v = 0) }
    (rmwShape i = some (.inc, m) → rmwOpcode .inc m = some i.opcode ∧ exec i s = result up (nzOf w up s.cpu.p)) ∧
    (rmwShape i = some (.dec, m) → rmwOpcode .dec m = some i.opcode ∧ exec i s = result down (nzOf w down s.cpu.p)) ∧
    (rmwShape i = some (.tsb, m) → rmwOpcode .tsb m = some i.opcode ∧ exec i s = result (v ||| a) test) ∧
    (rmwShape i = some (.trb, m) → rmwOpcode .trb m = some i.opcode ∧ exec i s = result (v &&& (a ^^^ w.ones)) test) ∧
    (rmwShape i = some (.asl, m) → rmwOpcode .asl m = some i.opcode ∧ exec i s = shifted .asl) ∧
    (rmwShape i = some (.lsr, m) → rmwOpcode .lsr m = some i.opcode ∧ exec i s = shifted .lsr) ∧
    (rmwShape i = some (.rol, m) → rmwOpcode .rol m = some i.opcode ∧ exec i s = shifted .rol) ∧
    (rmwShape i = some (.ror, m) → rmwOpcode .ror m = some i.opcode ∧ exec i s = shifted .ror)

/-- Frame of the stores and of the read-modify-write instructions where they store to no register: with `n` bytes stored from the
effective address on, every byte outside them reads as before (a byte is what an address decodes to, so a mirror of a stored byte is
a stored byte), and the flat array, VRAM and palette too. Memory is in its canonical form (`Bus.MemOk`, which every step keeps). -/
def Obligations.StoreFrame : Prop :=
  ∀ (i : Instr) (m : Mode) (n : Nat) (s : State), s.bus.MemOk →
    ((∃ r, storeShape i = some (r, m) ∧
        n = (widthOf (if r = .x ∨ r = .y then s.cpu.p.x else s.cpu.p.m)).bytes) ∨
      (∃ op, rmwShape i = some (op, m) ∧ n = (widthOf s.cpu.p.m).bytes)) →
    let ea := (effAddr m s).1
    (∀ k < n, (s.bus.target (ea.byteAddr k)).isReg = false) →
    ∃ t, exec i s = .next t ∧
      (∀ a, (s.bus.target a).quiet = true → (∀ k < n, s.bus.target a ≠ s.bus.target (ea.byteAddr k)) →
        (rd8 a t).1 = (rd8 a s).1) ∧
      (∀ off, t.bus.regAt off = s.bus.regAt off) ∧
      (∀ k, t.bus.ppu.vramWord k = s.bus.ppu.vramWord k) ∧
      t.bus.ppu.cgram = s.bus.ppu.cgram ∧ t.bus.ppu.oam = s.bus.ppu.oam ∧ t.bus.cart = s.bus.cart ∧
      t.sched = s.sched ∧ t.params = s.params

/-- R121: a byte written to a register other than 0x420B lands in its byte of the flat array and in no other; work-RAM, save-RAM, the
cartridge and OAM stay, VRAM changes at 0x2118 and 0x2119 only, the palette at 0x2122 only; a write of zero to 0x420B starts no DMA. -/
def Obligations.RegisterWriteFrame : Prop :=
  ∀ (b : Bus) (lay : Layout) (a : Addr) (off : Nat) (v : Byte), b.MemOk → b.target a = .reg off → (off = 0x420B → v = 0) →
    let t := b.wr8 lay a v
    t.regAt off = v ∧
    (∀ o, 0x2000 ≤ o → o ≠ off → t.regAt o = b.regAt o) ∧
    t.wram = b.wram ∧ t.sram = b.sram ∧ t.cart = b.cart ∧ t.ppu.oam = b.ppu.oam ∧
    (off ≠ 0x2118 → off ≠ 0x2119 → t.ppu.vram = b.ppu.vram) ∧
    (off ≠ 0x2122 → t.ppu.cgram = b.ppu.cgram) ∧
    t.inVblank = b.inVblank ∧ t.nmiFlag = b.nmiFlag ∧ t.dmaBytes = b.dmaBytes

/-! ### Registers -/

/-- R337, R339, R341-R344: INC A, DEC A, INX, INY, DEX and DEY complete: one more or less at the width of the register, N and Z of the
result, no other flag. -/
def Obligations.IncrementRegisters : Prop :=
  ∀ s : State,
    let wm := widthOf s.cpu.p.m
    let wx := widthOf s.cpu.p.x
    let resultA (v : Word) : Result :=
      .next { s with cpu := { s.cpu with a := spliceA wm v s.cpu.a, p := nzOf wm v s.cpu.p } }
    let resultX (v : Word) : Result := .next { s with cpu := { s.cpu with x := v, p := nzOf wx v s.cpu.p } }
    let resultY (v : Word) : Result := .next { s with cpu := { s.cpu with y := v, p := nzOf wx v s.cpu.p } }
    [Instr.incAcc, .decAcc, .inx, .dex, .iny, .dey].map Instr.opcode = [0x1A, 0x3A, 0xE8, 0xCA, 0xC8, 0x88] ∧
    exec .incAcc s = resultA (((s.cpu.a &&& wm.ones) + 1) &&& wm.ones) ∧
    exec .decAcc s = resultA (((s.cpu.a &&& wm.ones) - 1) &&& wm.ones) ∧
    exec .inx s = resultX ((s.cpu.x + 1) &&& wx.ones) ∧
    exec .dex s = resultX ((s.cpu.x - 1) &&& wx.ones) ∧
    exec .iny s = resultY ((s.cpu.y + 1) &&& wx.ones) ∧
    exec .dey s = resultY ((s.cpu.y - 1) &&& wx.ones)

/-- R378-R381: the accumulator forms of ASL, LSR, ROL and ROR complete: result, carry out, N and Z at the width of A. -/
def Obligations.AccumulatorShifts : Prop :=
  ∀ s : State,
    let w := widthOf s.cpu.p.m
    let result (op : Shift) : Result :=
      let q := shiftSpec op (s.cpu.a &&& w.ones) s.cpu.p.c w
      .next { s with cpu := { s.cpu with a := spliceA w q.1 s.cpu.a, p := { nzOf w q.1 s.cpu.p with c := q.2 } } }
    [Instr.aslAcc, .lsrAcc, .rolAcc, .rorAcc].map Instr.opcode = [0x0A, 0x4A, 0x2A, 0x6A] ∧
    exec .aslAcc s = result .asl ∧ exec .lsrAcc s = result .lsr ∧
    exec .rolAcc s = result .rol ∧ exec .rorAcc s = result .ror

/-- R301-R307, R313: the transfers at the width of their destination and XBA complete, with N and Z of the value moved. -/
def Obligations.WidthTransfers : Prop :=
  ∀ s : State,
    let wm := widthOf s.cpu.p.m
    let wx := widthOf s.cpu.p.x
    let toA (v : Word) : Result :=
      .next { s with cpu := { s.cpu with a := spliceA wm v s.cpu.a, p := nzOf wm (v &&& wm.ones) s.cpu.p } }
    let toX (v : Word) : Result :=
      .next { s with cpu := { s.cpu with x := v &&& wx.ones, p := nzOf wx (v &&& wx.ones) s.cpu.p } }
    let toY (v : Word) : Result :=
      .next { s with cpu := { s.cpu with y := v &&& wx.ones, p := nzOf wx (v &&& wx.ones) s.cpu.p } }
    let swapped := ((s.cpu.a &&& 0x00FF) <<< 8) ||| (s.cpu.a >>> 8)
    [Instr.tax, .tay, .txa, .tya, .txy, .tyx, .tsx, .xba].map Instr.opcode =
      [0xAA, 0xA8, 0x8A, 0x98, 0x9B, 0xBB, 0xBA, 0xEB] ∧
    exec .tax s = toX s.cpu.a ∧ exec .tay s = toY s.cpu.a ∧ exec .txa s = toA s.cpu.x ∧ exec .tya s = toA s.cpu.y ∧
    exec .txy s = toY s.cpu.x ∧ exec .tyx s = toX s.cpu.y ∧ exec .tsx s = toX s.cpu.s ∧
    exec .xba s = .next { s with cpu := { s.cpu with a := swapped, p := nzOf .w8 (swapped &&& 0x00FF) s.cpu.p } }

/-- R308-R312: TXS, TCS, TSC, TCD and TDC complete, 16 bits whatever P.M holds; into S the high byte is 0x01 in emulation mode and no
flag changes. -/
def Obligations.WordTransfers : Prop :=
  ∀ s : State,
    let toS (v : Word) : Result :=
      .next { s with cpu := { s.cpu with s := if s.cpu.e then 0x0100 ||| (v &&& 0x00FF) else v } }
    [Instr.txs, .tcs, .tsc, .tcd, .tdc].map Instr.opcode = [0x9A, 0x1B, 0x3B, 0x5B, 0x7B] ∧
    exec .txs s = toS s.cpu.x ∧
    exec .tcs s = toS s.cpu.a ∧
    exec .tsc s = .next { s with cpu := { s.cpu with a := s.cpu.s, p := nzOf .w16 s.cpu.s s.cpu.p } } ∧
    exec .tcd s = .next { s with cpu := { s.cpu with d := s.cpu.a, p := nzOf .w16 s.cpu.a s.cpu.p } } ∧
    exec .tdc s = .next { s with cpu := { s.cpu with a := s.cpu.d, p := nzOf .w16 s.cpu.d s.cpu.p } }

/-! ### Control transfer -/

/-- R411-R421, R424: the branches, BRL, JMP a and JML al complete; a branch that is not taken changes nothing, an offset is relative to
the next instruction and wraps in the bank. -/
def Obligations.BranchesAndJumps : Prop :=
  ∀ (s : State) (r : Byte) (rl a : Word) (al : Addr),
    let branch (taken : Bool) : Result := .next { s with cpu := { s.cpu with
      pc := if taken then BitVec.ofInt 16 (s.cpu.pc.toNat + r.toInt) else s.cpu.pc } }
    [Instr.bplRel r, .bmiRel r, .bvcRel r, .bvsRel r, .bccRel r, .bcsRel r, .bneRel r, .beqRel r, .braRel r, .brlRell rl, .jmpAbs a,
      .jmlLong al].map Instr.opcode = [0x10, 0x30, 0x50, 0x70, 0x90, 0xB0, 0xD0, 0xF0, 0x80, 0x82, 0x4C, 0x5C] ∧
    exec (.bplRel r) s = branch (!s.cpu.p.n) ∧ exec (.bmiRel r) s = branch s.cpu.p.n ∧
    exec (.bvcRel r) s = branch (!s.cpu.p.v) ∧ exec (.bvsRel r) s = branch s.cpu.p.v ∧
    exec (.bccRel r) s = branch (!s.cpu.p.c) ∧ exec (.bcsRel r) s = branch s.cpu.p.c ∧
    exec (.bneRel r) s = branch (!s.cpu.p.z) ∧ exec (.beqRel r) s = branch s.cpu.p.z ∧
    exec (.braRel r) s = branch true ∧
    exec (.brlRell rl) s = .next { s with cpu := { s.cpu with pc := BitVec.ofInt 16 (s.cpu.pc.toNat + rl.toInt) } } ∧
    exec (.jmpAbs a) s = .next { s with cpu := { s.cpu with pc := a } } ∧
    exec (.jmlLong al) s = .next { s with cpu := { s.cpu with
      pb := BitVec.ofNat 8 (al.toNat / 65536)
      pc := BitVec.ofNat 16 (al.toNat % 65536) } }

/-- R422, R423, R425: JMP (a), JMP (a,X) and JML [a] complete; the pointer is read in bank 0, for (a,X) in bank PB. -/
def Obligations.IndirectJumps : Prop :=
  ∀ (s : State) (a : Word),
    let p := memRead0 a.toNat 2 s
    let q := readNat (fun k => addrOf s.cpu.pb (BitVec.ofNat 16 (a.toNat + s.cpu.x.toNat + k))) 2 0 s
    let l := memRead0 a.toNat 3 s
    [Instr.jmpAbsind a, .jmpAbsxind a, .jmlAbsindl a].map Instr.opcode = [0x6C, 0x7C, 0xDC] ∧
    exec (.jmpAbsind a) s = .next { s with bus := p.2.bus, cpu := { s.cpu with pc := BitVec.ofNat 16 p.1 } } ∧
    exec (.jmpAbsxind a) s = .next { s with bus := q.2.bus, cpu := { s.cpu with pc := BitVec.ofNat 16 q.1 } } ∧
    exec (.jmlAbsindl a) s = .next { s with
      bus := l.2.bus
      cpu := { s.cpu with pb := BitVec.ofNat 8 (l.1 / 65536), pc := BitVec.ofNat 16 (l.1 % 65536) } }

/-- R426-R428: JSR a, JSR (a,X) and JSL al complete: the address of the instruction's last byte is pushed high byte first (after PB for
JSL), then PC, and for JSL PB, come from the operand or the pointer in bank PB. -/
def Obligations.SubroutineCalls : Prop :=
  ∀ (s : State) (a : Word) (al : Addr),
    let ret := s.cpu.pc - 1
    let t := pushed [highByte ret, lowByte ret] s
    let q := readNat (fun k => addrOf s.cpu.pb (BitVec.ofNat 16 (a.toNat + s.cpu.x.toNat + k))) 2 0 t
    let u := pushed [s.cpu.pb, highByte ret, lowByte ret] s
    [Instr.jsrAbs a, .jsrAbsxind a, .jslLong al].map Instr.opcode = [0x20, 0xFC, 0x22] ∧
    exec (.jsrAbs a) s = .next { t with cpu := { t.cpu with pc := a } } ∧
    exec (.jsrAbsxind a) s = .next { t with bus := q.2.bus, cpu := { t.cpu with pc := BitVec.ofNat 16 q.1 } } ∧
    exec (.jslLong al) s = .next { u with cpu := { u.cpu with
      pb := BitVec.ofNat 8 (al.toNat / 65536)
      pc := BitVec.ofNat 16 (al.toNat % 65536) } }

/-- R429, R430: RTS and RTL complete: PC is one past the pulled word, low byte first; RTL then pulls PB. -/
def Obligations.SubroutineReturns : Prop :=
  ∀ s : State,
    let r := pulled 2 s
    let l := pulled 3 s
    [Instr.rts, .rtl].map Instr.opcode = [0x60, 0x6B] ∧
    exec .rts s = .next { r.2 with cpu := { r.2.cpu with pc := BitVec.ofNat 16 (leNat r.1 + 1) } } ∧
    exec .rtl s = .next { l.2 with cpu := { l.2.cpu with
      pc := BitVec.ofNat 16 (leNat (l.1.take 2) + 1)
      pb := l.1.getD 2 0 } }

/-! ### Stack -/

/-- R451-R457: PHA, PHX, PHY, PHP, PHB, PHD and PHK complete: one byte, or two with the high byte first; only S and the stack change. -/
def Obligations.RegisterPushes : Prop :=
  ∀ s : State,
    let reg (eight : Bool) (v : Word) : Result :=
      .next (if eight then pushed [lowByte v] s else pushed [highByte v, lowByte v] s)
    [Instr.pha, .phx, .phy, .php, .phb, .phd, .phk].map Instr.opcode = [0x48, 0xDA, 0x5A, 0x08, 0x8B, 0x0B, 0x4B] ∧
    exec .pha s = reg s.cpu.p.m s.cpu.a ∧
    exec .phx s = reg s.cpu.p.x s.cpu.x ∧
    exec .phy s = reg s.cpu.p.x s.cpu.y ∧
    exec .php s = .next (pushed [s.cpu.p.toByte] s) ∧
    exec .phb s = .next (pushed [s.cpu.db] s) ∧
    exec .phd s = .next (pushed [highByte s.cpu.d, lowByte s.cpu.d] s) ∧
    exec .phk s = .next (pushed [s.cpu.pb] s)

/-- R458-R460: PEA, PEI and PER complete: the operand, the word at the direct-page address, the PC-relative address is pushed. -/
def Obligations.EffectivePushes : Prop :=
  ∀ (s : State) (v : Word) (d : Byte),
    let p := memRead0 (s.cpu.d.toNat + d.toNat) 2 s
    let pv := BitVec.ofNat 16 p.1
    let rel := BitVec.ofInt 16 (s.cpu.pc.toNat + v.toInt)
    [Instr.peaImm16 v, .peiDpind d, .perRell v].map Instr.opcode = [0xF4, 0xD4, 0x62] ∧
    exec (.peaImm16 v) s = .next (pushed [highByte v, lowByte v] s) ∧
    exec (.peiDpind d) s = .next (pushed [highByte pv, lowByte pv] p.2) ∧
    exec (.perRell v) s = .next (pushed [highByte rel, lowByte rel] s)

/-- R461-R463, R465, R466: PLA, PLX, PLY, PLB and PLD complete with N and Z of the value pulled. -/
def Obligations.RegisterPulls : Prop :=
  ∀ s : State,
    let wm := widthOf s.cpu.p.m
    let wx := widthOf s.cpu.p.x
    let ra := pulled wm.bytes s
    let rx := pulled wx.bytes s
    let rb := pulled 1 s
    let rd := pulled 2 s
    let va := BitVec.ofNat 16 (leNat ra.1)
    let vx := BitVec.ofNat 16 (leNat rx.1)
    let vd := BitVec.ofNat 16 (leNat rd.1)
    [Instr.pla, .plx, .ply, .plb, .pld].map Instr.opcode = [0x68, 0xFA, 0x7A, 0xAB, 0x2B] ∧
    exec .pla s = .next { ra.2 with cpu := { ra.2.cpu with a := spliceA wm va s.cpu.a, p := nzOf wm va s.cpu.p } } ∧
    exec .plx s = .next { rx.2 with cpu := { rx.2.cpu with x := vx, p := nzOf wx vx s.cpu.p } } ∧
    exec .ply s = .next { rx.2 with cpu := { rx.2.cpu with y := vx, p := nzOf wx vx s.cpu.p } } ∧
    exec .plb s = .next { rb.2 with cpu := { rb.2.cpu with
      db := rb.1.getD 0 0
      p := nzOf .w8 (zext (rb.1.getD 0 0)) s.cpu.p } } ∧
    exec .pld s = .next { rd.2 with cpu := { rd.2.cpu with d := vd, p := nzOf .w16 vd s.cpu.p } }

/-- R467 (2): a push and then a pull of the same register with its stack slots in work-RAM gives the register and S back. -/
def Obligations.PushThenPull : Prop :=
  ∀ s : State, s.cpu.ModeOk → s.bus.MemOk → (∀ k < 2, InWorkRam (slotDown s.cpu.e s.cpu.s k)) →
    ∀ push pull, (push, pull) ∈ [(Instr.pha, Instr.pla), (.phx, .plx), (.phy, .ply), (.phb, .plb), (.phd, .pld), (.php, .plp)] →
    ∃ t u, exec push s = .next t ∧ exec pull t = .next u ∧
      u.cpu.a = s.cpu.a ∧ u.cpu.x = s.cpu.x ∧ u.cpu.y = s.cpu.y ∧ u.cpu.s = s.cpu.s ∧ u.cpu.d = s.cpu.d ∧
      u.cpu.db = s.cpu.db ∧ u.cpu.pb = s.cpu.pb ∧ u.cpu.pc = s.cpu.pc ∧ u.cpu.e = s.cpu.e ∧
      (push = .php → u.cpu.p = s.cpu.p) ∧ (push ≠ .php → { u.cpu.p with n := s.cpu.p.n, z := s.cpu.p.z } = s.cpu.p)

/-! ### Status, mode and system -/

/-- R37, R40, R464, R497, R498: the bits of P as a byte, and PLP, REP and SEP, which complete with the new bits and EnforceModes. -/
def Obligations.StatusWrites : Prop :=
  (∀ p : Status,
    p.toByte.getLsbD 7 = p.n ∧ p.toByte.getLsbD 6 = p.v ∧ p.toByte.getLsbD 5 = p.m ∧ p.toByte.getLsbD 4 = p.x ∧
    p.toByte.getLsbD 3 = p.d ∧ p.toByte.getLsbD 2 = p.i ∧ p.toByte.getLsbD 1 = p.z ∧ p.toByte.getLsbD 0 = p.c ∧
    Status.ofByte p.toByte = p) ∧
  (∀ b : Byte, (Status.ofByte b).toByte = b) ∧
  (∀ (s : State) (c : Byte),
    let r := pulled 1 s
    let p := s.cpu.p
    let cleared : Status :=
      { n := p.n && !c.getLsbD 7, v := p.v && !c.getLsbD 6, m := p.m && !c.getLsbD 5, x := p.x && !c.getLsbD 4
        d := p.d && !c.getLsbD 3, i := p.i && !c.getLsbD 2, z := p.z && !c.getLsbD 1, c := p.c && !c.getLsbD 0 }
    let setBits : Status :=
      { n := p.n || c.getLsbD 7, v := p.v || c.getLsbD 6, m := p.m || c.getLsbD 5, x := p.x || c.getLsbD 4
        d := p.d || c.getLsbD 3, i := p.i || c.getLsbD 2, z := p.z || c.getLsbD 1, c := p.c || c.getLsbD 0 }
    [Instr.plp, .repImm c, .sepImm c].map Instr.opcode = [0x28, 0xC2, 0xE2] ∧
    exec .plp s = .next { r.2 with cpu := withStatus (Status.ofByte (r.1.getD 0 0)) r.2.cpu } ∧
    exec (.repImm c) s = .next { s with cpu := withStatus cleared s.cpu } ∧
    exec (.sepImm c) s = .next { s with cpu := withStatus setBits s.cpu })

/-- R490-R496, R500: the one-flag instructions and NOP complete and change that flag alone, NOP nothing. -/
def Obligations.FlagInstructions : Prop :=
  ∀ s : State,
    let result (p : Status) : Result := .next { s with cpu := { s.cpu with p := p } }
    [Instr.clc, .sec, .cli, .sei, .cld, .sed, .clv, .nop].map Instr.opcode =
      [0x18, 0x38, 0x58, 0x78, 0xD8, 0xF8, 0xB8, 0xEA] ∧
    exec .clc s = result { s.cpu.p with c := false } ∧ exec .sec s = result { s.cpu.p with c := true } ∧
    exec .cli s = result { s.cpu.p with i := false } ∧ exec .sei s = result { s.cpu.p with i := true } ∧
    exec .cld s = result { s.cpu.p with d := false } ∧ exec .sed s = result { s.cpu.p with d := true } ∧
    exec .clv s = result { s.cpu.p with v := false } ∧ exec .nop s = .next s

/-- R499: XCE completes: C and E change places; into emulation mode M and X become 1, X and Y lose their high bytes and the high byte
of S becomes 0x01; where the modes hold, into native mode nothing else changes, and with C = E nothing at all. -/
def Obligations.ExchangeCarryEmulation : Prop :=
  ∀ s : State,
    let c : Cpu := { s.cpu with e := s.cpu.p.c }
    Instr.xce.opcode = 0xFB ∧
    exec .xce s = .next { s with cpu := withStatus { s.cpu.p with c := s.cpu.e } c } ∧
    (s.cpu.ModeOk → s.cpu.p.c = false →
      exec .xce s = .next { s with cpu := { s.cpu with e := false, p := { s.cpu.p with c := s.cpu.e } } }) ∧
    (s.cpu.ModeOk → s.cpu.p.c = s.cpu.e → exec .xce s = .next s)

/-- R501, R509, R510: WDM, WAI and STP complete; WAI and STP set their latch and nothing else. -/
def Obligations.ReservedWaitStop : Prop :=
  ∀ (s : State) (sig : Byte),
    [Instr.wdmSig sig, .wai, .stp].map Instr.opcode = [0x42, 0xCB, 0xDB] ∧
    exec (.wdmSig sig) s = .next s ∧
    exec .wai s = .next { s with cpu := { s.cpu with waiting := true } } ∧
    exec .stp s = .next { s with cpu := { s.cpu with stopped := true } }

/-- R502, R503, R554-R556: BRK and COP complete by taking their interrupt: PB (native), PC and P pushed, bit 4 of the pushed P set in
emulation mode, I set, D cleared (native), PB zero, PC from the vector. -/
def Obligations.SoftwareInterrupts : Prop :=
  ∀ (s : State) (sig : Byte),
    let status : Status := if s.cpu.e then { s.cpu.p with x := true } else s.cpu.p
    let t := pushed ((if s.cpu.e then [] else [s.cpu.pb]) ++ [highByte s.cpu.pc, lowByte s.cpu.pc, status.toByte]) s
    let result (vector : Nat) : Result :=
      let r := memRead0 vector 2 t
      .next { t with
        bus := r.2.bus
        cpu := { t.cpu with
          p := { s.cpu.p with i := true, d := s.cpu.e && s.cpu.p.d }
          pb := 0
          pc := BitVec.ofNat 16 r.1 } }
    [Instr.brkSig sig, .copSig sig].map Instr.opcode = [0x00, 0x02] ∧
    exec (.brkSig sig) s = result (if s.cpu.e then 0xFFFE else 0xFFE6) ∧
    exec (.copSig sig) s = result (if s.cpu.e then 0xFFF4 else 0xFFE4)

/-- R212, R554-R556: the entry of an NMI and of an IRQ: as BRK's, with bit 4 of the pushed P clear in emulation mode, the NMI latch
cleared by the NMI alone, the wait ended, and 7 or 8 cycles. -/
def Obligations.HardwareInterrupts : Prop :=
  ∀ s : State,
    let status : Status := if s.cpu.e then { s.cpu.p with x := false } else s.cpu.p
    let t := pushed ((if s.cpu.e then [] else [s.cpu.pb]) ++ [highByte s.cpu.pc, lowByte s.cpu.pc, status.toByte]) s
    let result (vector : Nat) (nmi : Bool) : State :=
      let r := memRead0 vector 2 t
      { t with
        bus := r.2.bus
        cpu := { t.cpu with
          p := { s.cpu.p with i := true, d := s.cpu.e && s.cpu.p.d }
          pb := 0
          pc := BitVec.ofNat 16 r.1
          nmiPending := nmi
          waiting := false
          cycles := s.cpu.cycles + (if s.cpu.e then 7 else 8) } }
    interruptStep .nmi s = result (if s.cpu.e then 0xFFFA else 0xFFEA) false ∧
    interruptStep .irq s = result (if s.cpu.e then 0xFFFE else 0xFFEE) s.cpu.nmiPending

/-- R507: RTI completes: P, PC and, in native mode, PB are pulled, with EnforceModes after P. -/
def Obligations.ReturnFromInterrupt : Prop :=
  ∀ s : State,
    let r := pulled (if s.cpu.e then 3 else 4) s
    let c := withStatus (Status.ofByte (r.1.getD 0 0)) r.2.cpu
    Instr.rti.opcode = 0x40 ∧
    exec .rti s = .next { r.2 with cpu := { c with
      pc := BitVec.ofNat 16 (leNat ((r.1.drop 1).take 2))
      pb := if s.cpu.e then s.cpu.pb else r.1.getD 3 0 } }

/-- R556, R558: an RTI right after any interrupt entry with its frame in work-RAM restores every register, P and S; PB too in native
mode (in emulation mode no PB was pushed, and it stays 0). -/
def Obligations.ReturnUndoesEntry : Prop :=
  ∀ (k : Interrupt) (s : State), s.cpu.ModeOk → s.bus.MemOk →
    (∀ n < 4, InWorkRam (slotDown s.cpu.e s.cpu.s n)) →
    ∃ u, exec .rti (raiseInterrupt k s) = .next u ∧
      u.cpu = { s.cpu with
        pb := if s.cpu.e then 0 else s.cpu.pb
        nmiPending := if k = .nmi then false else s.cpu.nmiPending }

/-- R530, R531: one step of MVN and of MVP completes: a byte is copied between the banks, X and Y step at their width, A counts down,
DB is the destination bank, and PC goes back to the opcode until A has passed 0. -/
def Obligations.BlockMoves : Prop :=
  ∀ (s : State) (dst src : Byte),
    let w := widthOf s.cpu.p.x
    let r := s.bus.rd8 (addrOf src s.cpu.x)
    let result (x y : Word) : Result := .next { s with
      bus := r.2.wr8 s.params.dmaLayout (addrOf dst s.cpu.y) r.1
      cpu := { s.cpu with
        db := dst
        x := x &&& w.ones
        y := y &&& w.ones
        a := s.cpu.a - 1
        pc := if s.cpu.a = 0 then s.cpu.pc else s.cpu.pc - 3 } }
    [Instr.mvnBm dst src, .mvpBm dst src].map Instr.opcode = [0x54, 0x44] ∧
    exec (.mvnBm dst src) s = result (s.cpu.x + 1) (s.cpu.y + 1) ∧
    exec (.mvpBm dst src) s = result (s.cpu.x - 1) (s.cpu.y - 1)

/-! ### The whole machine -/

/-- R41, R505: every step keeps the mode constraints, from every state that meets them. -/
def Obligations.ModesStayLegal : Prop :=
  ∀ s t : State, s.cpu.ModeOk → step s = .next t → t.cpu.ModeOk

/-- Every step keeps every memory in its canonical form and within its size, from every state where that holds. -/
def Obligations.MemoriesStayWellFormed : Prop :=
  ∀ s t : State, s.bus.MemOk → step s = .next t → t.bus.MemOk

/-- R90, R650, R651, R656: State.reset meets both invariants, and every row of R90 has its value in it: the CPU with PC = 0 (no cartridge),
the bus with every memory all zero, and the scheduler. `reset()` gives these values from any state, keeps the cartridge, save-RAM,
`running` and the frame sink, and reads PC from the vector's bytes. The zeros of A, X, Y, D, DB, PB, N, V, Z and C are log 1's, those of
the memories and devices log 2's, an absent cartridge's PC and save-RAM log 3's; that the parameters and the IRQ source stay is log 4 and
log 5; the bookkeeping field dmaBytes is log 12's. -/
def Obligations.ResetState : Prop :=
  State.reset.cpu.ModeOk ∧ State.reset.bus.MemOk ∧
  State.reset.cpu =
    { a := 0, x := 0, y := 0, s := 0x01FF, d := 0, db := 0, pb := 0, pc := 0
      p := { n := false, v := false, m := true, x := true, d := false, i := true, z := false, c := false }
      e := true, cycles := 0, irqPending := false, nmiPending := false, waiting := false, stopped := false, decodeMisses := 0 } ∧
  (let b := State.reset.bus
   (∀ k, Cells.read b.wram k = 0 ∧ Cells.read b.sram k = 0 ∧ Cells.read b.regs k = 0) ∧
   b.cart = none ∧ b.mappingWarnings = 0 ∧ b.sramBoundsWarnings = 0 ∧ b.inVblank = false ∧ b.nmiFlag = false ∧
   b.apuPort0 = 0 ∧ b.apuPort1 = 0 ∧ b.apuPort2 = 0 ∧ b.apuPort3 = 0 ∧ b.dmaBytes = 0) ∧
  (let p := State.reset.bus.ppu
   let layer : Layer := { bigTiles := false, mapBase := 0, mapSize := 0, charBase := 0 }
   (∀ k, Cells.read p.vram k = 0 ∧ Cells.read p.cgram k = 0 ∧ Cells.read p.oam k = 0) ∧
   p.forcedBlank = false ∧ p.brightness = 0 ∧ p.bgMode = 0 ∧
   p.layer1 = layer ∧ p.layer2 = layer ∧ p.layer3 = layer ∧ p.layer4 = layer ∧
   p.mainMask = 0 ∧ p.subMask = 0 ∧ p.vramAddr = 0 ∧ p.vramStep = .by1 ∧ p.vramIncHigh = false ∧ p.vramLatch = 0 ∧
   p.cgIndex = 0 ∧ p.cgPhase = false ∧ p.cgLow = 0) ∧
  (State.reset.sched.master = 0 ∧ State.reset.sched.frameCount = 0 ∧ State.reset.sched.buttons = 0) ∧
  (∀ s : State, ∃ lo hi : Byte,
    hostReset s = { State.reset with
      cpu := { State.reset.cpu with pc := wordOf lo hi }
      bus := { State.reset.bus with sram := s.bus.sram, cart := s.bus.cart }
      sched := { State.reset.sched with
        running := s.sched.running, frameSink := s.sched.frameSink, irqSource := s.sched.irqSource }
      params := s.params } ∧
    (s.bus.cart = none → lo = 0 ∧ hi = 0) ∧
    (∀ c, s.bus.cart = some c → c.mapping = .lowMapped →
      lo = Cells.read c.rom (0x7FFC % c.romSize) ∧ hi = Cells.read c.rom (0x7FFD % c.romSize)) ∧
    (∀ c, s.bus.cart = some c → c.mapping = .highMapped →
      lo = Cells.read c.rom (0xFFFC % c.romSize) ∧ hi = Cells.read c.rom (0xFFFD % c.romSize)))

/-- R38: E changes by XCE, which gives it the old C, and by reset, which sets it; no other instruction, no interrupt entry and no other
kind of step writes it. -/
def Obligations.EmulationFlagWriters : Prop :=
  (∀ (i : Instr) (s t : State), exec i s = .next t → t.cpu.e = if i = .xce then s.cpu.p.c else s.cpu.e) ∧
  (∀ (k : Interrupt) (s : State), (raiseInterrupt k s).cpu.e = s.cpu.e) ∧
  (∀ s t : State, step s = .next t →
    t.cpu.e = s.cpu.e ∨ (({ s.bus with dmaBytes := 0 } : Bus).rd8 (addrOf s.cpu.pb s.cpu.pc)).1 = 0xFB) ∧
  (∀ s : State, (hostReset s).cpu.e = true) ∧ State.reset.cpu.e = true

/-- R33-R35, R39: only the instructions the rules name change PB, DB, D, and the flags V, M, X, D, I and C. -/
def Obligations.WhoWritesWhat : Prop :=
  ∀ (i : Instr) (s t : State), exec i s = .next t →
    let is (l : List Byte) : Prop := i.opcode ∈ l
    let reads (l : List ReadOp) : Prop := ∃ op src, readShape i = some (op, src) ∧ op ∈ l
    let shifts : Prop := is [0x0A, 0x2A, 0x4A, 0x6A] ∨ ∃ op m, rmwShape i = some (op, m) ∧ op ∈ [RmwOp.asl, .lsr, .rol, .ror]
    let all : Prop := is [0xC2, 0xE2, 0x28, 0x40]
    (t.cpu.pb ≠ s.cpu.pb → is [0x5C, 0xDC, 0x22, 0x6B, 0x00, 0x02] ∨ (is [0x40] ∧ s.cpu.e = false)) ∧
    (t.cpu.db ≠ s.cpu.db → is [0xAB, 0x44, 0x54]) ∧
    (t.cpu.d ≠ s.cpu.d → is [0x5B, 0x2B]) ∧
    (t.cpu.p.v ≠ s.cpu.p.v → all ∨ is [0xB8] ∨ reads [.adc, .sbc, .bit]) ∧
    (t.cpu.p.m ≠ s.cpu.p.m → all ∨ is [0xFB]) ∧
    (t.cpu.p.x ≠ s.cpu.p.x → all ∨ is [0xFB]) ∧
    (t.cpu.p.d ≠ s.cpu.p.d → all ∨ is [0xD8, 0xF8] ∨ (is [0x00, 0x02] ∧ s.cpu.e = false)) ∧
    (t.cpu.p.i ≠ s.cpu.p.i → all ∨ is [0x58, 0x78, 0x00, 0x02]) ∧
    (t.cpu.p.c ≠ s.cpu.p.c → all ∨ is [0x18, 0x38, 0xFB] ∨ shifts ∨ reads [.adc, .sbc, .cmp, .cpx, .cpy])

/-- R655: no step, no scheduler action and no reset changes the cartridge; a store to it changes nothing; a store to save-RAM that is
there is read back. (The host's load and restore can change the cartridge record: they are no part of this statement.) -/
def Obligations.CartridgeIsReadOnly : Prop :=
  (∀ s t : State, step s = .next t → t.bus.cart = s.bus.cart) ∧
  (∀ (s : State) (t : Tick), tick s = .next t → t.state.bus.cart = s.bus.cart) ∧
  (∀ s : State, (hostReset s).bus.cart = s.bus.cart) ∧
  (∀ (s : State) (a : Addr) (o : Nat) (v : Byte), s.bus.target a = .rom o → wr8 a v s = s) ∧
  (∀ (s : State) (a : Addr) (k : Nat) (v : Byte), s.bus.MemOk → s.bus.target a = .sram k → k < s.bus.saveRamSize →
    (rd8 a (wr8 a v s)).1 = v)

/-- R560: every step answers a next state; R81, R610, R625: what it does does not depend on the scheduler's counters, the buttons, the
frame sink or the IRQ source, and it leaves them and the parameters as they are. -/
def Obligations.StepIgnoresScheduler : Prop :=
  ∀ s : State, ∃ t, step s = .next t ∧ t.sched = s.sched ∧ t.params = s.params ∧
    ∀ q : Sched, step { s with sched := q } = .next { t with sched := q }

/-! ### Memory and devices -/

/-- R101, R112, R113: the low 8 KiB of every system bank is the low 8 KiB of work-RAM, read and written alike; a ROM read changes nothing;
an unmapped access, and one to save-RAM that is not there, reads 0 or is dropped and counts its warning; save-RAM that is there is read
with no effect; a byte stored to work-RAM is read back. (CartridgeIsReadOnly says that a byte stored to save-RAM is read back and a
store to ROM is dropped.) -/
def Obligations.BusTargets : Prop :=
  ∀ (s : State) (v : Byte),
    (∀ (bank : Byte) (off : Word), SystemBank bank.toNat → off.toNat < 0x2000 →
      rd8 (addrOf bank off) s = ((rd8 (addrOf 0x7E off) s).1, s) ∧
      wr8 (addrOf bank off) v s = wr8 (addrOf 0x7E off) v s) ∧
    (∀ (a : Addr) (o : Nat), s.bus.target a = .rom o →
      rd8 a s = ((match s.bus.cart with | none => 0 | some c => Cells.read c.rom (o % c.romSize)), s)) ∧
    (∀ a : Addr, s.bus.target a = .unmapped →
      let t : State := { s with bus := { s.bus with mappingWarnings := s.bus.mappingWarnings + 1 } }
      rd8 a s = (0, t) ∧ wr8 a v s = t) ∧
    (∀ (a : Addr) (k : Nat), s.bus.target a = .sram k → s.bus.saveRamSize ≤ k →
      let t : State := { s with bus := { s.bus with sramBoundsWarnings := s.bus.sramBoundsWarnings + 1 } }
      rd8 a s = (0, t) ∧ wr8 a v s = t) ∧
    (∀ (a : Addr) (k : Nat), s.bus.target a = .sram k → k < s.bus.saveRamSize → rd8 a s = (Cells.read s.bus.sram k, s)) ∧
    (∀ (a : Addr) (k : Nat), s.bus.MemOk → s.bus.target a = .wram k → (rd8 a (wr8 a v s)).1 = v)

/-- R122, R123, R126, R129, R130: the write effects of 0x2100, 0x2105, 0x2115, 0x2121 and 0x2122, beside the flat array. -/
def Obligations.DisplayAndPalettePorts : Prop :=
  ∀ (b : Bus) (lay : Layout) (a : Addr) (v : Byte),
    let p := b.ppu
    let flat (off : Nat) : Memory := Cells.write b.regs (off - 0x2000) v
    let entry : BitVec 15 := BitVec.ofNat 15 (v.toNat % 128 * 256 + p.cgLow.toNat)
    (b.target a = .reg 0x2100 → b.wr8 lay a v = { b with regs := flat 0x2100, ppu := { p with
      forcedBlank := v.getLsbD 7, brightness := BitVec.ofNat 4 (v.toNat % 16) } }) ∧
    (b.target a = .reg 0x2105 → b.wr8 lay a v = { b with regs := flat 0x2105, ppu := { p with
      bgMode := BitVec.ofNat 3 (v.toNat % 8)
      layer1 := { p.layer1 with bigTiles := v.getLsbD 4 }, layer2 := { p.layer2 with bigTiles := v.getLsbD 5 }
      layer3 := { p.layer3 with bigTiles := v.getLsbD 6 }, layer4 := { p.layer4 with bigTiles := v.getLsbD 7 } } }) ∧
    (b.target a = .reg 0x2115 → b.wr8 lay a v = { b with regs := flat 0x2115, ppu := { p with
      vramStep := ([.by1, .by32, .by128, .by128] : List VramStep).getD (v.toNat % 4) .by1
      vramIncHigh := v.getLsbD 7 } }) ∧
    (b.target a = .reg 0x2121 → b.wr8 lay a v = { b with regs := flat 0x2121, ppu := { p with
      cgIndex := v, cgPhase := false } }) ∧
    (b.target a = .reg 0x2122 → b.wr8 lay a v = { b with regs := flat 0x2122, ppu :=
      if p.cgPhase then { p with
        cgram := Cells.write p.cgram p.cgIndex.toNat entry, cgIndex := p.cgIndex + 1, cgPhase := false }
      else { p with cgLow := v, cgPhase := true } })

/-- R124, R125, R127, R128, R134, R135: the write effects of the layer bases, the VRAM address and data ports, the APU ports and the
screen masks, beside the flat array. -/
def Obligations.LayerVramAudioPorts : Prop :=
  ∀ (b : Bus) (lay : Layout) (a : Addr) (v : Byte) (off : Nat), b.target a = .reg off →
    let p := b.ppu
    let t := b.wr8 lay a v
    let map (l : Layer) : Layer :=
      { l with mapBase := BitVec.ofNat 16 (v.toNat / 4 * 0x400), mapSize := BitVec.ofNat 2 (v.toNat % 4) }
    let char (n : Nat) (l : Layer) : Layer := { l with charBase := BitVec.ofNat 16 (n * 0x1000) }
    let at_ (addr : Word) : Word := Cells.read p.vram (addr.toNat % 0x8000)
    let step : Word := match p.vramStep with | .by1 => 1 | .by32 => 32 | .by128 => 128
    let address (addr : Word) : Ppu := { p with vramAddr := addr, vramLatch := at_ addr }
    let data (w : Word) (inc : Bool) : Ppu :=
      { p with
        vram := Cells.write p.vram (p.vramAddr.toNat % 0x8000) w
        vramAddr := if inc then p.vramAddr + step else p.vramAddr }
    (off = 0x2107 → t.ppu = { p with layer1 := map p.layer1 }) ∧
    (off = 0x2108 → t.ppu = { p with layer2 := map p.layer2 }) ∧
    (off = 0x2109 → t.ppu = { p with layer3 := map p.layer3 }) ∧
    (off = 0x210A → t.ppu = { p with layer4 := map p.layer4 }) ∧
    (off = 0x210B → t.ppu = { p with
      layer1 := char (v.toNat % 16) p.layer1, layer2 := char (v.toNat / 16) p.layer2 }) ∧
    (off = 0x210C → t.ppu = { p with
      layer3 := char (v.toNat % 16) p.layer3, layer4 := char (v.toNat / 16) p.layer4 }) ∧
    (off = 0x2116 → t.ppu = address ((p.vramAddr &&& 0xFF00) ||| zext v)) ∧
    (off = 0x2117 → t.ppu = address ((zext v <<< 8) ||| (p.vramAddr &&& 0x00FF))) ∧
    (off = 0x2118 → t.ppu = data ((at_ p.vramAddr &&& 0xFF00) ||| zext v) (!p.vramIncHigh)) ∧
    (off = 0x2119 → t.ppu = data ((zext v <<< 8) ||| (at_ p.vramAddr &&& 0x00FF)) p.vramIncHigh) ∧
    (off = 0x212C → t.ppu = { p with mainMask := v }) ∧
    (off = 0x212D → t.ppu = { p with subMask := v }) ∧
    (off = 0x2140 → t = { b with regs := t.regs, apuPort0 := v }) ∧
    (off = 0x2141 → t = { b with regs := t.regs, apuPort1 := v }) ∧
    (off = 0x2142 → t = { b with regs := t.regs, apuPort2 := v }) ∧
    (off = 0x2143 → t = { b with regs := t.regs, apuPort3 := v })

/-- R131-R134, R137-R139: the registers with a read rule, and the flat array for every other register; only 0x2139, 0x213A, 0x213B and
0x4210 have a read side effect. -/
def Obligations.RegisterReads : Prop :=
  ∀ (b : Bus) (a : Addr) (off : Nat), b.target a = .reg off →
    let p := b.ppu
    let r := b.rd8 a
    let step : Word := match p.vramStep with | .by1 => 1 | .by32 => 32 | .by128 => 128
    let advanced : Ppu := { p with
      vramAddr := p.vramAddr + step, vramLatch := Cells.read p.vram ((p.vramAddr + step).toNat % 0x8000) }
    let entry := (Cells.read p.cgram p.cgIndex.toNat).toNat
    (off = 0x2139 → r = (lowByte p.vramLatch, if p.vramIncHigh then b else { b with ppu := advanced })) ∧
    (off = 0x213A → r = (highByte p.vramLatch, if p.vramIncHigh then { b with ppu := advanced } else b)) ∧
    (off = 0x213B → r = if p.cgPhase
      then (BitVec.ofNat 8 (entry / 256), { b with ppu := { p with cgPhase := false, cgIndex := p.cgIndex + 1 } })
      else (BitVec.ofNat 8 (entry % 256), { b with ppu := { p with cgPhase := true } })) ∧
    (off = 0x2140 → r = (b.apuPort0, b)) ∧ (off = 0x2141 → r = (b.apuPort1, b)) ∧
    (off = 0x2142 → r = (b.apuPort2, b)) ∧ (off = 0x2143 → r = (b.apuPort3, b)) ∧
    (off = 0x4210 → r = (if b.nmiFlag then 0x80 else 0x00, { b with nmiFlag := false })) ∧
    (off = 0x4212 → r = (if b.inVblank then 0x80 else 0x00, b)) ∧
    (off = 0x4016 ∨ off = 0x4017 ∨ (0x4218 ≤ off ∧ off ≤ 0x421F) → r = (0x00, b)) ∧
    (off ∉ [0x2139, 0x213A, 0x213B, 0x2140, 0x2141, 0x2142, 0x2143, 0x4016, 0x4017, 0x4210, 0x4212] →
      ¬(0x4218 ≤ off ∧ off ≤ 0x421F) → r = (b.regAt off, b))

/-- R133: an index write and two data writes commit 15 bits and advance the index; another index write and two data reads give the bits
back. -/
def Obligations.PaletteRoundTrip : Prop :=
  ∀ (b : Bus) (lay : Layout) (i lo hi : Byte), b.MemOk →
    let t := (((b.wr8 lay 0x002121 i).wr8 lay 0x002122 lo).wr8 lay 0x002122 hi)
    let u := t.wr8 lay 0x002121 i
    let r := u.rd8 0x00213B
    let q := r.2.rd8 0x00213B
    Cells.read t.ppu.cgram i.toNat = BitVec.ofNat 15 (hi.toNat % 128 * 256 + lo.toNat) ∧
    t.ppu.cgIndex = i + 1 ∧ r.1 = lo ∧ q.1 = hi &&& 0x7F ∧ q.2.ppu.cgIndex = i + 1 ∧ q.2.ppu.cgPhase = false

/-- R140-R143: a DMA transfer ends with its size registers 0 and its A-bus offset advanced by the byte count unless it is fixed. Byte i
goes between `dmaAddr c i` and the register `dmaReg c i`, by the pattern of the mode. From A to B each register that gets bytes holds the
last of them, the audio ports too, the PPU is what the port writes in order leave, and no work-RAM or save-RAM changes; from B to A each
address that holds a byte of work-RAM or save-RAM gets its byte, the PPU is what the port reads in order leave, no VRAM or palette
changes, and the rest of work-RAM and save-RAM stays. The store that starts DMA leaves 0x420B with every bit clear. -/
def Obligations.DmaTransfers : Prop :=
  ∀ (b : Bus) (lay : Layout), b.MemOk →
    (∀ ch < 8,
      let c := b.dmaChannel lay ch
      let t := b.dmaTransfer lay ch
      let base := 0x4300 + 0x10 * ch
      let aReg := match lay with | .document => base + 3 | .console => base + 2
      let sizeReg := match lay with | .document => base + 8 | .console => base + 5
      let n := if c.size = 0 then 65536 else c.size.toNat
      t.regAt sizeReg = 0 ∧ t.regAt (sizeReg + 1) = 0 ∧
      wordOf (t.regAt aReg) (t.regAt (aReg + 1)) = (if c.fixed then c.aOff else c.aOff + BitVec.ofNat 16 n) ∧
      t.dmaBytes = b.dmaBytes + n ∧ t.cart = b.cart ∧ t.ppu.oam = b.ppu.oam ∧
      (c.toA = false →
        (∀ i < n, (∀ j < n, i < j → dmaReg c j ≠ dmaReg c i) →
          t.regAt (dmaReg c i) = dmaSource c i b ∧
          (0x2140 ≤ dmaReg c i → dmaReg c i ≤ 0x2143 → (t.readReg (dmaReg c i)).1 = dmaSource c i b)) ∧
        t.ppu = (List.range n).foldl (fun p i => p.writePort (dmaReg c i) (dmaSource c i b)) b.ppu ∧
        t.wram = b.wram ∧ t.sram = b.sram) ∧
      (c.toA = true →
        (∀ i < n, (c.fixed = true → i + 1 = n) → b.holdsRam (b.target (dmaAddr c i)) = true →
          (t.rd8 (dmaAddr c i)).1 = ((dmaReads c i b).readReg (dmaReg c i)).1) ∧
        t.ppu = (dmaReads c n b).ppu ∧ t.ppu.vram = b.ppu.vram ∧ t.ppu.cgram = b.ppu.cgram ∧
        (∀ k, (∀ i < n, b.target (dmaAddr c i) ≠ .wram k) → Cells.read t.wram k = Cells.read b.wram k) ∧
        (∀ k, (∀ i < n, b.target (dmaAddr c i) ≠ .sram k) → Cells.read t.sram k = Cells.read b.sram k))) ∧
    (∀ (a : Addr) (v : Byte), b.target a = .reg 0x420B → (b.wr8 lay a v).regAt 0x420B = 0)

/-- R580-R583: the picture pixel by pixel is the picture the drawing procedure leaves: for every pixel, the last of its writes to it, or
the black backdrop. -/
def Obligations.PixelIsLastDrawn : Prop :=
  ∀ (e : ColorExpand) (p : Ppu) (y x : Nat), y < 224 → x < 256 →
    p.pixel e y x = drawnPixel y x (p.drawFrame e) ∧
    ((p.renderFrame e).drop (4 * (256 * y + x))).take 4 =
      [(p.pixel e y x).r, (p.pixel e y x).g, (p.pixel e y x).b, (p.pixel e y x).a] ∧
    (p.renderFrame e).length = 229376

/-! ### Scheduler and host -/

/-- R551, R621: the crossing of the vertical-blank boundary: both flags, the NMI latch if 0x4200 bit 7 is set, the frame rendered and
handed to the sink that is set; nothing else changes. -/
def Obligations.VerticalBlankEntry : Prop :=
  ∀ s : State, s.bus.inVblank = false → 224 * 1364 ≤ s.sched.master →
    tick s = .next {
      kind := .vblank (s.bus.ppu.renderFrame s.params.colorExpand) s.sched.frameSink
      state := { s with
        bus := { s.bus with inVblank := true, nmiFlag := true }
        cpu := { s.cpu with nmiPending := s.cpu.nmiPending || (s.bus.regAt 0x4200).getLsbD 7 } } }

/-- R621-R623: with the parameters in range, `run()` always returns at the end of a frame, one frame later and out of vertical blank; a
frame that had not reached vertical blank is handed to a sink that is set, once. -/
def Obligations.RunReturnsAtFrameEnd : Prop :=
  ∀ s : State, s.params.Ok →
    ∃ r, hostRun s = .next r ∧ r.ending = .frameBoundary ∧
      r.state.sched.frameCount = s.sched.frameCount + 1 ∧ r.state.bus.inVblank = false ∧
      r.state.sched.running = true ∧ r.state.sched.buttons = s.sched.buttons ∧
      (s.bus.inVblank = false → r.frames.map (·.1) = s.sched.frameSink.toList) ∧
      (s.bus.inVblank = true → r.frames = [])

/-- R102, R103, R106, R654: a load either fails, or leaves the machine as `reset()` leaves it with the new cartridge in: the image's
bytes as they are, save-RAM of at most 512 KiB all zero. -/
def Obligations.LoadCartridge : Prop :=
  ∀ (bytes : List Byte) (s : State),
    let rom := if bytes.length % 1024 = 512 then bytes.drop 512 else bytes
    (rom.length < 0x8000 → loadCartridge bytes s = .error .tooSmall) ∧
    (∀ t, loadCartridge bytes s = .ok t →
      0x8000 ≤ rom.length ∧ ∃ c,
        t = hostReset { s with bus := { s.bus with cart := some c, sram := [] } } ∧
        t.bus.cart = some c ∧ c.romSize = rom.length ∧ (∀ k, Cells.read c.rom k = rom.getD k 0) ∧
        c.saveRamSize ≤ 0x80000 ∧ t.bus.sram = [] ∧ t.bus.MemOk)

/-- R634, R635: restoring a snapshot gives every field back, whatever the state it is restored into, with the same cartridge loaded; with
another fingerprint nothing changes. The IRQ source and the parameters are no part of a snapshot (log 4, log 5). With no cartridge there is
no fingerprint: that no cartridge matches no cartridge, and matches no loaded one, is the model's choice (log 16). -/
def Obligations.SnapshotRoundTrip : Prop :=
  ∀ s s' : State,
    (s'.bus.cart = s.bus.cart → restore (snapshot s) s' =
      { s' with cpu := s.cpu, bus := s.bus, sched := { s.sched with irqSource := s'.sched.irqSource } }) ∧
    (fingerprint s ≠ fingerprint s' → restore (snapshot s) s' = s')
end

