-- ==== Sys2Proof/Laws/Bits.lean ====
section
/-! SUPPORT. Bytes, words and addresses as numbers: each operation of Bits.lean as a fact about `toNat`, and taking apart what was
put together. -/

namespace Sys2Proof

@[simp] theorem lowByte_toNat (w : Word) : (lowByte w).toNat = w.toNat % 256 := by simp [lowByte]

@[simp] theorem highByte_toNat (w : Word) : (highByte w).toNat = w.toNat / 256 := by
  have := w.isLt
  simp [highByte, Nat.shiftRight_eq_div_pow]
  omega

@[simp] theorem wordOf_toNat (lo hi : Byte) : (wordOf lo hi).toNat = lo.toNat + 256 * hi.toNat := by
  have := lo.isLt
  have := hi.isLt
  simp [wordOf]
  omega

@[simp] theorem zext_toNat (v : Byte) : (zext v).toNat = v.toNat := by
  have := v.isLt
  simp [zext]
  omega

@[simp] theorem addrOf_toNat (bank : Byte) (off : Word) :
    (addrOf bank off).toNat = 65536 * bank.toNat + off.toNat := by
  have := bank.isLt
  have := off.isLt
  simp [addrOf]
  omega

@[simp] theorem addrLow_toNat (a : Addr) : (addrLow a).toNat = a.toNat % 256 := by simp [addrLow]

@[simp] theorem addrMid_toNat (a : Addr) : (addrMid a).toNat = a.toNat / 256 % 256 := by
  simp [addrMid, Nat.shiftRight_eq_div_pow]

@[simp] theorem addrBank_toNat (a : Addr) : (addrBank a).toNat = a.toNat / 65536 := by
  have := a.isLt
  simp [addrBank, Nat.shiftRight_eq_div_pow]
  omega

@[simp] theorem addrOffset_toNat (a : Addr) : (addrOffset a).toNat = a.toNat % 65536 := by simp [addrOffset]

@[simp] theorem lowByte_wordOf (lo hi : Byte) : lowByte (wordOf lo hi) = lo := by
  apply BitVec.eq_of_toNat_eq
  have := lo.isLt
  simp
  omega

@[simp] theorem highByte_wordOf (lo hi : Byte) : highByte (wordOf lo hi) = hi := by
  apply BitVec.eq_of_toNat_eq
  have := lo.isLt
  simp
  omega

@[simp] theorem wordOf_bytes (w : Word) : wordOf (lowByte w) (highByte w) = w := by
  apply BitVec.eq_of_toNat_eq
  simp
  omega

@[simp] theorem lowByte_zext (v : Byte) : lowByte (zext v) = v := by
  apply BitVec.eq_of_toNat_eq
  have := v.isLt
  simp
  omega

@[simp] theorem highByte_zext (v : Byte) : highByte (zext v) = 0 := by
  apply BitVec.eq_of_toNat_eq
  have := v.isLt
  simp
  omega

@[simp] theorem addrBank_addrOf (bank : Byte) (off : Word) : addrBank (addrOf bank off) = bank := by
  apply BitVec.eq_of_toNat_eq
  have := off.isLt
  simp
  omega

@[simp] theorem addrOffset_addrOf (bank : Byte) (off : Word) : addrOffset (addrOf bank off) = off := by
  apply BitVec.eq_of_toNat_eq
  have := off.isLt
  simp
  omega

@[simp] theorem addrOf_parts (a : Addr) : addrOf (addrBank a) (addrOffset a) = a := by
  apply BitVec.eq_of_toNat_eq
  simp
  omega

end Sys2Proof
end

