-- ==== Sys2Proof/Laws/Memory.lean ====
section
/-! SUPPORT. The sparse memory: a read after a write, and every operation keeps the canonical form and the bound on keys. -/

namespace Sys2Proof.Machine

namespace Cells

variable {w : Nat} {m : Cells w} {a b n : Nat} {v : BitVec w}

/-- A key below every listed key is unlisted. -/
theorem read_eq_zero_of_lt (h : ∀ p ∈ m, a < p.1) : read m a = 0 := by
  induction m with
  | nil => rfl
  | cons p m ih =>
    have hp := h p (by simp)
    simp [read, show a ≠ p.1 by omega]
    exact ih fun q hq => h q (by simp [hq])

/-- A write changes the written key alone. -/
theorem read_write (hm : m.wf) : read (write m a v) b = if b = a then v else read m b := by
  induction m with
  | nil =>
    simp only [write]
    split <;> simp_all [read]
  | cons p m ih =>
    obtain ⟨hs, hz⟩ := hm
    rw [List.pairwise_cons] at hs
    have hm' : wf m := ⟨hs.2, fun q hq => hz q (by simp [hq])⟩
    obtain ⟨k, u⟩ := p
    simp only [write]
    split
    · rename_i hak
      have hlow : read m a = 0 := read_eq_zero_of_lt fun q hq => by have := hs.1 q hq; simp at this; omega
      split
      · rename_i hv
        by_cases hb : b = a
        · subst hb
          simp [read, show b ≠ k by omega, hlow, hv]
        · simp [hb]
      · simp [read]
    · split
      · rename_i hak
        subst hak
        have hlow : read m a = 0 := read_eq_zero_of_lt fun q hq => by have := hs.1 q hq; simpa using this
        split
        · rename_i hv
          by_cases hb : b = a
          · subst hb
            simp [hlow, hv]
          · simp [read, hb]
        · by_cases hb : b = a <;> simp [read, hb]
      · rename_i h1 h2
        simp only [read, ih hm']
        by_cases hb : b = a
        · subst hb
          simp [h2]
        · simp [hb]

/-- The keys of a written memory: the written one, or one listed before. -/
theorem mem_write {p : Nat × BitVec w} (h : p ∈ write m a v) : p = (a, v) ∧ v ≠ 0 ∨ p ∈ m := by
  induction m with
  | nil =>
    simp only [write] at h
    split at h
    · simp at h
    · rename_i hv
      simp at h
      exact .inl ⟨h, hv⟩
  | cons q m ih =>
    obtain ⟨k, u⟩ := q
    simp only [write] at h
    split at h
    · split at h
      · exact .inr h
      · rename_i hv
        simp only [List.mem_cons] at h
        rcases h with h | h | h
        · exact .inl ⟨h, hv⟩
        · simp [h]
        · simp [h]
    · split at h
      · rename_i hak
        split at h
        · simp [h]
        · rename_i hv
          simp only [List.mem_cons] at h
          rcases h with h | h
          · exact .inl ⟨by rw [h, hak], hv⟩
          · simp [h]
      · simp only [List.mem_cons] at h
        rcases h with h | h
        · simp [h]
        · rcases ih h with h | h
          · exact .inl h
          · simp [h]

/-- A write keeps the canonical form. -/
theorem wf_write (hm : m.wf) : (write m a v).wf := by
  refine ⟨?_, fun p hp => ?_⟩
  · induction m with
    | nil =>
      simp only [write]
      split <;> simp
    | cons q m ih =>
      obtain ⟨hs, hz⟩ := hm
      rw [List.pairwise_cons] at hs
      have hm' : wf m := ⟨hs.2, fun q hq => hz q (by simp [hq])⟩
      obtain ⟨k, u⟩ := q
      simp only [write]
      split
      · rename_i hak
        split
        · exact List.pairwise_cons.2 hs
        · refine List.pairwise_cons.2 ⟨fun q hq => ?_, List.pairwise_cons.2 hs⟩
          simp only [List.mem_cons] at hq
          rcases hq with rfl | hq
          · exact hak
          · exact Nat.lt_trans hak (hs.1 q hq)
      · split
        · split
          · exact hs.2
          · exact List.pairwise_cons.2 hs
        · rename_i h1 h2
          refine List.pairwise_cons.2 ⟨fun q hq => ?_, ih hm'⟩
          rcases mem_write hq with ⟨rfl, -⟩ | hq
          · simp; omega
          · exact hs.1 q hq
  · rcases mem_write hp with ⟨rfl, hv⟩ | hp
    · exact hv
    · exact hm.2 p hp

/-- A write below the bound keeps the bound. -/
theorem below_write (hm : m.below n) (ha : a < n) : (write m a v).below n := by
  intro p hp
  rcases mem_write hp with ⟨rfl, -⟩ | hp
  · exact ha
  · exact hm p hp

/-- The keys of a list laid out from `k` on. -/
theorem mem_ofList {vs : List (BitVec w)} {k : Nat} {p : Nat × BitVec w} (h : p ∈ ofList k vs) :
    k ≤ p.1 ∧ p.1 < k + vs.length ∧ p.2 ≠ 0 := by
  induction vs generalizing k with
  | nil => simp [ofList] at h
  | cons u us ih =>
    simp only [ofList] at h
    split at h
    · have := ih h
      exact ⟨by omega, by simp only [List.length_cons]; omega, this.2.2⟩
    · rename_i hu
      simp only [List.mem_cons] at h
      rcases h with rfl | h
      · exact ⟨Nat.le_refl _, by simp, hu⟩
      · have := ih h
        exact ⟨by omega, by simp only [List.length_cons]; omega, this.2.2⟩

/-- A list laid out as a memory is in canonical form. -/
theorem wf_ofList (vs : List (BitVec w)) (k : Nat) : (ofList k vs).wf := by
  refine ⟨?_, fun p hp => (mem_ofList hp).2.2⟩
  induction vs generalizing k with
  | nil => simp [ofList]
  | cons u us ih =>
    simp only [ofList]
    split
    · exact ih _
    · refine List.pairwise_cons.2 ⟨fun q hq => ?_, ih _⟩
      have := (mem_ofList hq).1
      simp
      omega

/-- Reading a list laid out as a memory gives the list's values. -/
theorem read_ofList (vs : List (BitVec w)) (k i : Nat) : read (ofList k vs) (k + i) = vs.getD i 0 := by
  induction vs generalizing k i with
  | nil => simp [ofList, read]
  | cons u us ih =>
    cases i with
    | zero =>
      simp only [ofList]
      split
      · rename_i hu
        rw [read_eq_zero_of_lt fun p hp => by have := (mem_ofList hp).1; omega]
        simp [hu]
      · simp [read]
    | succ i =>
      have h := ih (k + 1) i
      rw [show k + 1 + i = k + (i + 1) by omega] at h
      simp only [ofList]
      split
      · simpa using h
      · simpa [read] using h

end Cells

end Sys2Proof.Machine
end

