-- ==== Sys2Proof/Laws/Bus.lean ====
section
/-! SUPPORT. The bus: where an address can decode to, what a read can change, and one induction for everything a bus access keeps
(DMA included). -/

namespace Sys2Proof.Machine

/-! ### Targets -/

/-- The indexes a target can carry: inside work-RAM, or inside the register file. -/
def Target.InRange : Target → Prop
  | .wram i => i < 131072
  | .reg off => 0x2000 ≤ off ∧ off ≤ 0x5FFF
  | _ => True

theorem decodeLow_inRange {bank off : Nat} (ho : off < 65536) : (decodeLow bank off).InRange := by
  unfold decodeLow
  repeat' split
  all_goals simp only [Target.InRange]
  all_goals omega

theorem decodeHigh_inRange {r : Bool} {bank off : Nat} (ho : off < 65536) :
    (decodeHigh r bank off).InRange := by
  unfold decodeHigh
  repeat' split
  all_goals simp only [Target.InRange]
  all_goals omega

/-- Every target lies in its memory or in the register file. -/
theorem target_inRange (b : Bus) (a : Addr) : (b.target a).InRange := by
  have ho := (addrOffset a).isLt
  unfold Bus.target
  split
  · exact decodeLow_inRange ho
  · split
    · exact decodeLow_inRange ho
    · exact decodeHigh_inRange ho

/-- The target of an address depends on the cartridge alone. -/
theorem target_of_cart {b b' : Bus} (h : b'.cart = b.cart) (a : Addr) : b'.target a = b.target a := by
  simp only [Bus.target, h]

/-- The B-bus registers of DMA lie in 0x2100-0x21FF (20_memory.md R142). -/
theorem bReg_range (c : Channel) (i : Nat) : 0x2100 ≤ c.bReg i ∧ c.bReg i ≤ 0x21FF := by
  have h : ∀ n : Nat, 0x2100 ≤ 0x2100 + n % 256 ∧ 0x2100 + n % 256 ≤ 0x21FF := by omega
  exact h _

/-! ### Reads -/

/-- Two buses that hold the same memory: what differs may be warning counters, the read-sensitive PPU registers and `nmi_flag`. -/
structure Bus.SameStore (b b' : Bus) : Prop where
  wram : b'.wram = b.wram
  sram : b'.sram = b.sram
  cart : b'.cart = b.cart
  regs : b'.regs = b.regs
  vram : b'.ppu.vram = b.ppu.vram
  cgram : b'.ppu.cgram = b.ppu.cgram
  oam : b'.ppu.oam = b.ppu.oam
  inVblank : b'.inVblank = b.inVblank
  apuPort0 : b'.apuPort0 = b.apuPort0
  apuPort1 : b'.apuPort1 = b.apuPort1
  apuPort2 : b'.apuPort2 = b.apuPort2
  apuPort3 : b'.apuPort3 = b.apuPort3
  dmaBytes : b'.dmaBytes = b.dmaBytes

theorem Bus.SameStore.refl (b : Bus) : b.SameStore b := by constructor <;> rfl

theorem readReg_sameStore (off : Nat) (b : Bus) : b.SameStore (b.readReg off).2 := by
  have hl : b.SameStore { b with ppu := b.ppu.readVramLow.2 } := by
    unfold Ppu.readVramLow
    split <;> constructor <;> rfl
  have hh : b.SameStore { b with ppu := b.ppu.readVramHigh.2 } := by
    unfold Ppu.readVramHigh
    split <;> constructor <;> rfl
  have hc : b.SameStore { b with ppu := b.ppu.readCgData.2 } := by
    unfold Ppu.readCgData
    split <;> constructor <;> rfl
  have hn : b.SameStore { b with nmiFlag := false } := by constructor <;> rfl
  have hite : ∀ (c : Prop) [Decidable c] (p q : Byte × Bus), b.SameStore p.2 → b.SameStore q.2 →
      b.SameStore (if c then p else q).2 := by
    intro c _ p q hp hq
    split <;> assumption
  unfold Bus.readReg
  exact hite _ _ _ hl (hite _ _ _ hh (hite _ _ _ hc (hite _ _ _ (.refl b) (hite _ _ _ (.refl b) (hite _ _ _ (.refl b)
    (hite _ _ _ (.refl b) (hite _ _ _ hn (hite _ _ _ (.refl b) (hite _ _ _ (.refl b) (.refl b))))))))))

/-- A read changes no memory (20_memory.md R131, R153). -/
theorem rd8_sameStore (a : Addr) (b : Bus) : b.SameStore (b.rd8 a).2 := by
  unfold Bus.rd8 Bus.readTarget
  split
  · exact .refl b
  · split
    · exact .refl b
    · constructor <;> rfl
  · exact .refl b
  · exact readReg_sameStore _ b
  · constructor <;> rfl

/-! ### What every bus access keeps -/

/-- A property of the bus that every elementary change keeps: then every read and write, with the DMA it may start, keeps it. -/
structure Bus.Stable (P : Bus → Prop) : Prop where
  readReg : ∀ off b, P b → P (b.readReg off).2
  setReg : ∀ off v b, off ≤ 0x5FFF → P b → P (b.setReg off v)
  writePort : ∀ off v b, off ≤ 0x5FFF → P b → P (b.writePort off v)
  wram : ∀ i v b, i < 131072 → P b → P { b with wram := Cells.write b.wram i v }
  sram : ∀ i v b, i < b.saveRamSize → P b → P { b with sram := Cells.write b.sram i v }
  warnMapping : ∀ b, P b → P b.warnMapping
  warnSram : ∀ b, P b → P b.warnSram
  dmaBytes : ∀ n b, P b → P { b with dmaBytes := n }

namespace Bus.Stable

variable {P : Bus → Prop} (hP : Bus.Stable P) {b : Bus}
include hP

theorem readTarget {f : Nat → Bus → Byte × Bus} (hf : ∀ off b, P b → P (f off b).2) (h : P b) (t : Target) :
    P (b.readTarget f t).2 := by
  unfold Bus.readTarget
  repeat' split
  all_goals first | exact h | exact hP.warnSram b h | exact hP.warnMapping b h | exact hf _ b h

theorem writeTarget {f : Nat → Byte → Bus → Bus} (hf : ∀ off v b, 0x2000 ≤ off → off ≤ 0x5FFF → P b → P (f off v b))
    (h : P b) (v : Byte) {t : Target} (ht : t.InRange) : P (b.writeTarget f t v) := by
  unfold Bus.writeTarget
  split
  · exact hP.wram _ _ b ht h
  · split
    · rename_i hi
      exact hP.sram _ _ b hi h
    · exact hP.warnSram b h
  · exact h
  · exact hf _ _ b ht.1 ht.2 h
  · exact hP.warnMapping b h

theorem rd8 (h : P b) (a : Addr) : P (b.rd8 a).2 := hP.readTarget hP.readReg h _

theorem dmaByte (h : P b) (c : Channel) (i : Nat) (o : Word) : P (b.dmaByte c i o) := by
  have hr := bReg_range c i
  unfold Bus.dmaByte
  simp only
  split
  · exact hP.writeTarget (fun _ _ _ _ _ h => h) (hP.readReg _ b h) _ (target_inRange _ _)
  · exact hP.writePort _ _ _ (by omega) (hP.readTarget (fun _ _ h => h) h _)

theorem dmaLoop (c : Channel) (n i : Nat) (o : Word) (b : Bus) (h : P b) : P (Bus.dmaLoop c n i o b).2 := by
  induction n generalizing i o b with
  | zero => exact h
  | succ n ih => exact ih _ _ _ (hP.dmaByte h c i o)

theorem dmaTransfer (h : P b) (lay : Layout) {ch : Nat} (hch : ch < 8) : P (b.dmaTransfer lay ch) := by
  have hb : channelBase ch ≤ 0x4370 := by unfold channelBase; omega
  unfold Bus.dmaTransfer
  cases lay <;> simp only [channelOffsets] <;> refine hP.dmaBytes _ _ (hP.setReg _ _ _ ?_ (hP.setReg _ _ _ ?_
    (hP.setReg _ _ _ ?_ (hP.setReg _ _ _ ?_ (hP.dmaLoop _ _ _ _ _ h))))) <;> omega

theorem dmaStart (h : P b) (lay : Layout) (v : Byte) : P (b.dmaStart lay v) := by
  have step : ∀ l : List Nat, (∀ ch ∈ l, ch < 8) → ∀ b, P b → P (l.foldl (Bus.dmaChannelStart lay v) b) := by
    intro l
    induction l with
    | nil => exact fun _ _ h => h
    | cons ch l ih =>
      intro hl b h
      refine ih (fun c hc => hl c (by simp [hc])) _ ?_
      unfold Bus.dmaChannelStart
      split
      · exact hP.setReg _ _ _ (by omega) (hP.dmaTransfer h lay (hl ch (by simp)))
      · exact h
  exact step _ (fun ch hch => by simpa using hch) b h

theorem writeReg (h : P b) (lay : Layout) (off : Nat) (v : Byte) (ho : off ≤ 0x5FFF) : P (b.writeReg lay off v) := by
  unfold Bus.writeReg
  split
  · exact hP.dmaStart (hP.writePort _ _ b ho h) lay v
  · exact hP.writePort _ _ b ho h

theorem wr8 (h : P b) (lay : Layout) (a : Addr) (v : Byte) : P (b.wr8 lay a v) :=
  hP.writeTarget (fun off v _ _ ho h => hP.writeReg h lay off v ho) h v (target_inRange b a)

end Bus.Stable

/-- The three memories of the PPU in canonical form and within their sizes. -/
structure Ppu.MemOk (p : Ppu) : Prop where
  vram : Cells.ok 32768 p.vram
  cgram : Cells.ok 256 p.cgram
  oam : Cells.ok (w := 8) 544 p.oam

theorem ppu_storeVram_memOk {p : Ppu} (h : p.MemOk) (v : Word) : (p.storeVram v).MemOk :=
  ⟨⟨Cells.wf_write h.vram.1, Cells.below_write h.vram.2 (Nat.mod_lt _ (by decide))⟩, h.cgram, h.oam⟩

theorem ppu_writeVramLow_memOk {p : Ppu} (h : p.MemOk) (v : Byte) : (p.writeVramLow v).MemOk := by
  unfold Ppu.writeVramLow
  simp only
  split
  · exact ppu_storeVram_memOk h _
  · exact { ppu_storeVram_memOk h _ with }

theorem ppu_writeVramHigh_memOk {p : Ppu} (h : p.MemOk) (v : Byte) : (p.writeVramHigh v).MemOk := by
  unfold Ppu.writeVramHigh
  simp only
  split
  · exact { ppu_storeVram_memOk h _ with }
  · exact ppu_storeVram_memOk h _

theorem ppu_writeCgData_memOk {p : Ppu} (h : p.MemOk) (v : Byte) : (p.writeCgData v).MemOk := by
  unfold Ppu.writeCgData
  split
  · exact ⟨h.vram, ⟨Cells.wf_write h.cgram.1, Cells.below_write h.cgram.2 p.cgIndex.isLt⟩, h.oam⟩
  · exact { h with }

/-- No register write takes a PPU memory out of its form or size (20_memory.md R128, R130). -/
theorem ppu_writePort_memOk (off : Nat) (v : Byte) (p : Ppu) (h : p.MemOk) : (p.writePort off v).MemOk := by
  have hite : ∀ (c : Prop) [Decidable c] (q r : Ppu), q.MemOk → r.MemOk → (if c then q else r).MemOk := by
    intro c _ q r hq hr
    split <;> assumption
  unfold Ppu.writePort
  refine hite _ _ _ ⟨h.vram, h.cgram, h.oam⟩ ?_
  refine hite _ _ _ ⟨h.vram, h.cgram, h.oam⟩ ?_
  refine hite _ _ _ ⟨h.vram, h.cgram, h.oam⟩ ?_
  refine hite _ _ _ ⟨h.vram, h.cgram, h.oam⟩ ?_
  refine hite _ _ _ ⟨h.vram, h.cgram, h.oam⟩ ?_
  refine hite _ _ _ ⟨h.vram, h.cgram, h.oam⟩ ?_
  refine hite _ _ _ ⟨h.vram, h.cgram, h.oam⟩ ?_
  refine hite _ _ _ ⟨h.vram, h.cgram, h.oam⟩ ?_
  refine hite _ _ _ ⟨h.vram, h.cgram, h.oam⟩ ?_
  refine hite _ _ _ ⟨h.vram, h.cgram, h.oam⟩ ?_
  refine hite _ _ _ ⟨h.vram, h.cgram, h.oam⟩ ?_
  refine hite _ _ _ (ppu_writeVramLow_memOk h v) ?_
  refine hite _ _ _ (ppu_writeVramHigh_memOk h v) ?_
  refine hite _ _ _ ⟨h.vram, h.cgram, h.oam⟩ ?_
  refine hite _ _ _ (ppu_writeCgData_memOk h v) ?_
  refine hite _ _ _ ⟨h.vram, h.cgram, h.oam⟩ ?_
  refine hite _ _ _ ⟨h.vram, h.cgram, h.oam⟩ ?_
  exact h

/-- Every memory stays in canonical form and within its size. -/
theorem memOk_stable : Bus.Stable Bus.MemOk where
  readReg off b h := by
    have s := readReg_sameStore off b
    obtain ⟨h1, h2, h3, h4, h5, h6, h7⟩ := h
    exact ⟨by rw [s.wram]; exact h1, by simpa only [s.sram, Bus.saveRamSize, s.cart] using h2, by rw [s.regs]; exact h3,
      by rw [s.vram]; exact h4, by rw [s.cgram]; exact h5, by rw [s.oam]; exact h6, by rw [s.cart]; exact h7⟩
  setReg off v b ho h :=
    { h with regs := ⟨Cells.wf_write h.regs.1, Cells.below_write h.regs.2 (by omega)⟩ }
  writePort off v b ho h := by
    have hreg : (b.setReg off v).MemOk :=
      { h with regs := ⟨Cells.wf_write h.regs.1, Cells.below_write h.regs.2 (by omega)⟩ }
    have hppu : (b.ppu.writePort off v).MemOk := ppu_writePort_memOk off v b.ppu ⟨h.vram, h.cgram, h.oam⟩
    simp only [Bus.writePort]
    repeat' split
    all_goals first
      | exact { hreg with }
      | exact ⟨hreg.wram, hreg.sram, hreg.regs, hppu.vram, hppu.cgram, hppu.oam, hreg.rom⟩
  wram i v b hi h := { h with wram := ⟨Cells.wf_write h.wram.1, Cells.below_write h.wram.2 hi⟩ }
  sram i v b hi h := { h with sram := ⟨Cells.wf_write h.sram.1, Cells.below_write h.sram.2 hi⟩ }
  warnMapping b h := { h with }
  warnSram b h := { h with }
  dmaBytes n b h := { h with }

/-- No bus access changes the cartridge (70_reset_and_hazards.md R655). -/
theorem cart_stable (c : Option Cartridge) : Bus.Stable (fun b => b.cart = c) where
  readReg off b h := (readReg_sameStore off b).cart.trans h
  setReg off v b _ h := h
  writePort off v b _ h := by
    simp only [Bus.writePort]
    repeat' split
    all_goals exact h
  wram i v b _ h := h
  sram i v b _ h := h
  warnMapping b h := h
  warnSram b h := h
  dmaBytes n b h := h

@[simp] theorem Bus.rd8_cart (a : Addr) (b : Bus) : (b.rd8 a).2.cart = b.cart := (rd8_sameStore a b).cart

@[simp] theorem Bus.wr8_cart (lay : Layout) (a : Addr) (v : Byte) (b : Bus) : (b.wr8 lay a v).cart = b.cart :=
  (cart_stable b.cart).wr8 rfl lay a v

end Sys2Proof.Machine
end

