-- ==== Sys2Proof/Laws/State.lean ====
section
/-! SUPPORT. One lemma per field per register update, each true by unfolding, so that no later proof unfolds an update. -/

namespace Sys2Proof.Machine

variable (s : State)

section
variable (w : Width) (v : Word)

@[simp] theorem setA_bus : (setA w v s).bus = s.bus := rfl
@[simp] theorem setA_sched : (setA w v s).sched = s.sched := rfl
@[simp] theorem setA_params : (setA w v s).params = s.params := rfl
@[simp] theorem setA_a : (setA w v s).cpu.a = (match w with | .w8 => wordOf (lowByte v) (highByte s.cpu.a) | .w16 => v) := rfl
@[simp] theorem setA_x : (setA w v s).cpu.x = s.cpu.x := rfl
@[simp] theorem setA_y : (setA w v s).cpu.y = s.cpu.y := rfl
@[simp] theorem setA_s : (setA w v s).cpu.s = s.cpu.s := rfl
@[simp] theorem setA_d : (setA w v s).cpu.d = s.cpu.d := rfl
@[simp] theorem setA_db : (setA w v s).cpu.db = s.cpu.db := rfl
@[simp] theorem setA_pb : (setA w v s).cpu.pb = s.cpu.pb := rfl
@[simp] theorem setA_pc : (setA w v s).cpu.pc = s.cpu.pc := rfl
@[simp] theorem setA_p : (setA w v s).cpu.p = s.cpu.p := rfl
@[simp] theorem setA_e : (setA w v s).cpu.e = s.cpu.e := rfl
@[simp] theorem setA_cycles : (setA w v s).cpu.cycles = s.cpu.cycles := rfl
@[simp] theorem setA_irqPending : (setA w v s).cpu.irqPending = s.cpu.irqPending := rfl
@[simp] theorem setA_nmiPending : (setA w v s).cpu.nmiPending = s.cpu.nmiPending := rfl
@[simp] theorem setA_waiting : (setA w v s).cpu.waiting = s.cpu.waiting := rfl
@[simp] theorem setA_stopped : (setA w v s).cpu.stopped = s.cpu.stopped := rfl
@[simp] theorem setA_decodeMisses : (setA w v s).cpu.decodeMisses = s.cpu.decodeMisses := rfl

end

section
variable (w : Width) (v : Word)

@[simp] theorem setX_bus : (setX w v s).bus = s.bus := rfl
@[simp] theorem setX_sched : (setX w v s).sched = s.sched := rfl
@[simp] theorem setX_params : (setX w v s).params = s.params := rfl
@[simp] theorem setX_a : (setX w v s).cpu.a = s.cpu.a := rfl
@[simp] theorem setX_x : (setX w v s).cpu.x = w.trunc v := rfl
@[simp] theorem setX_y : (setX w v s).cpu.y = s.cpu.y := rfl
@[simp] theorem setX_s : (setX w v s).cpu.s = s.cpu.s := rfl
@[simp] theorem setX_d : (setX w v s).cpu.d = s.cpu.d := rfl
@[simp] theorem setX_db : (setX w v s).cpu.db = s.cpu.db := rfl
@[simp] theorem setX_pb : (setX w v s).cpu.pb = s.cpu.pb := rfl
@[simp] theorem setX_pc : (setX w v s).cpu.pc = s.cpu.pc := rfl
@[simp] theorem setX_p : (setX w v s).cpu.p = s.cpu.p := rfl
@[simp] theorem setX_e : (setX w v s).cpu.e = s.cpu.e := rfl
@[simp] theorem setX_cycles : (setX w v s).cpu.cycles = s.cpu.cycles := rfl
@[simp] theorem setX_irqPending : (setX w v s).cpu.irqPending = s.cpu.irqPending := rfl
@[simp] theorem setX_nmiPending : (setX w v s).cpu.nmiPending = s.cpu.nmiPending := rfl
@[simp] theorem setX_waiting : (setX w v s).cpu.waiting = s.cpu.waiting := rfl
@[simp] theorem setX_stopped : (setX w v s).cpu.stopped = s.cpu.stopped := rfl
@[simp] theorem setX_decodeMisses : (setX w v s).cpu.decodeMisses = s.cpu.decodeMisses := rfl

end

section
variable (w : Width) (v : Word)

@[simp] theorem setY_bus : (setY w v s).bus = s.bus := rfl
@[simp] theorem setY_sched : (setY w v s).sched = s.sched := rfl
@[simp] theorem setY_params : (setY w v s).params = s.params := rfl
@[simp] theorem setY_a : (setY w v s).cpu.a = s.cpu.a := rfl
@[simp] theorem setY_x : (setY w v s).cpu.x = s.cpu.x := rfl
@[simp] theorem setY_y : (setY w v s).cpu.y = w.trunc v := rfl
@[simp] theorem setY_s : (setY w v s).cpu.s = s.cpu.s := rfl
@[simp] theorem setY_d : (setY w v s).cpu.d = s.cpu.d := rfl
@[simp] theorem setY_db : (setY w v s).cpu.db = s.cpu.db := rfl
@[simp] theorem setY_pb : (setY w v s).cpu.pb = s.cpu.pb := rfl
@[simp] theorem setY_pc : (setY w v s).cpu.pc = s.cpu.pc := rfl
@[simp] theorem setY_p : (setY w v s).cpu.p = s.cpu.p := rfl
@[simp] theorem setY_e : (setY w v s).cpu.e = s.cpu.e := rfl
@[simp] theorem setY_cycles : (setY w v s).cpu.cycles = s.cpu.cycles := rfl
@[simp] theorem setY_irqPending : (setY w v s).cpu.irqPending = s.cpu.irqPending := rfl
@[simp] theorem setY_nmiPending : (setY w v s).cpu.nmiPending = s.cpu.nmiPending := rfl
@[simp] theorem setY_waiting : (setY w v s).cpu.waiting = s.cpu.waiting := rfl
@[simp] theorem setY_stopped : (setY w v s).cpu.stopped = s.cpu.stopped := rfl
@[simp] theorem setY_decodeMisses : (setY w v s).cpu.decodeMisses = s.cpu.decodeMisses := rfl

end

section
variable (v : Word)

@[simp] theorem setS_bus : (setS v s).bus = s.bus := rfl
@[simp] theorem setS_sched : (setS v s).sched = s.sched := rfl
@[simp] theorem setS_params : (setS v s).params = s.params := rfl
@[simp] theorem setS_a : (setS v s).cpu.a = s.cpu.a := rfl
@[simp] theorem setS_x : (setS v s).cpu.x = s.cpu.x := rfl
@[simp] theorem setS_y : (setS v s).cpu.y = s.cpu.y := rfl
@[simp] theorem setS_s : (setS v s).cpu.s = stackValue s.cpu.e v := rfl
@[simp] theorem setS_d : (setS v s).cpu.d = s.cpu.d := rfl
@[simp] theorem setS_db : (setS v s).cpu.db = s.cpu.db := rfl
@[simp] theorem setS_pb : (setS v s).cpu.pb = s.cpu.pb := rfl
@[simp] theorem setS_pc : (setS v s).cpu.pc = s.cpu.pc := rfl
@[simp] theorem setS_p : (setS v s).cpu.p = s.cpu.p := rfl
@[simp] theorem setS_e : (setS v s).cpu.e = s.cpu.e := rfl
@[simp] theorem setS_cycles : (setS v s).cpu.cycles = s.cpu.cycles := rfl
@[simp] theorem setS_irqPending : (setS v s).cpu.irqPending = s.cpu.irqPending := rfl
@[simp] theorem setS_nmiPending : (setS v s).cpu.nmiPending = s.cpu.nmiPending := rfl
@[simp] theorem setS_waiting : (setS v s).cpu.waiting = s.cpu.waiting := rfl
@[simp] theorem setS_stopped : (setS v s).cpu.stopped = s.cpu.stopped := rfl
@[simp] theorem setS_decodeMisses : (setS v s).cpu.decodeMisses = s.cpu.decodeMisses := rfl

end

section
variable (v : Word)

@[simp] theorem setD_bus : (setD v s).bus = s.bus := rfl
@[simp] theorem setD_sched : (setD v s).sched = s.sched := rfl
@[simp] theorem setD_params : (setD v s).params = s.params := rfl
@[simp] theorem setD_a : (setD v s).cpu.a = s.cpu.a := rfl
@[simp] theorem setD_x : (setD v s).cpu.x = s.cpu.x := rfl
@[simp] theorem setD_y : (setD v s).cpu.y = s.cpu.y := rfl
@[simp] theorem setD_s : (setD v s).cpu.s = s.cpu.s := rfl
@[simp] theorem setD_d : (setD v s).cpu.d = v := rfl
@[simp] theorem setD_db : (setD v s).cpu.db = s.cpu.db := rfl
@[simp] theorem setD_pb : (setD v s).cpu.pb = s.cpu.pb := rfl
@[simp] theorem setD_pc : (setD v s).cpu.pc = s.cpu.pc := rfl
@[simp] theorem setD_p : (setD v s).cpu.p = s.cpu.p := rfl
@[simp] theorem setD_e : (setD v s).cpu.e = s.cpu.e := rfl
@[simp] theorem setD_cycles : (setD v s).cpu.cycles = s.cpu.cycles := rfl
@[simp] theorem setD_irqPending : (setD v s).cpu.irqPending = s.cpu.irqPending := rfl
@[simp] theorem setD_nmiPending : (setD v s).cpu.nmiPending = s.cpu.nmiPending := rfl
@[simp] theorem setD_waiting : (setD v s).cpu.waiting = s.cpu.waiting := rfl
@[simp] theorem setD_stopped : (setD v s).cpu.stopped = s.cpu.stopped := rfl
@[simp] theorem setD_decodeMisses : (setD v s).cpu.decodeMisses = s.cpu.decodeMisses := rfl

end

section
variable (v : Byte)

@[simp] theorem setDb_bus : (setDb v s).bus = s.bus := rfl
@[simp] theorem setDb_sched : (setDb v s).sched = s.sched := rfl
@[simp] theorem setDb_params : (setDb v s).params = s.params := rfl
@[simp] theorem setDb_a : (setDb v s).cpu.a = s.cpu.a := rfl
@[simp] theorem setDb_x : (setDb v s).cpu.x = s.cpu.x := rfl
@[simp] theorem setDb_y : (setDb v s).cpu.y = s.cpu.y := rfl
@[simp] theorem setDb_s : (setDb v s).cpu.s = s.cpu.s := rfl
@[simp] theorem setDb_d : (setDb v s).cpu.d = s.cpu.d := rfl
@[simp] theorem setDb_db : (setDb v s).cpu.db = v := rfl
@[simp] theorem setDb_pb : (setDb v s).cpu.pb = s.cpu.pb := rfl
@[simp] theorem setDb_pc : (setDb v s).cpu.pc = s.cpu.pc := rfl
@[simp] theorem setDb_p : (setDb v s).cpu.p = s.cpu.p := rfl
@[simp] theorem setDb_e : (setDb v s).cpu.e = s.cpu.e := rfl
@[simp] theorem setDb_cycles : (setDb v s).cpu.cycles = s.cpu.cycles := rfl
@[simp] theorem setDb_irqPending : (setDb v s).cpu.irqPending = s.cpu.irqPending := rfl
@[simp] theorem setDb_nmiPending : (setDb v s).cpu.nmiPending = s.cpu.nmiPending := rfl
@[simp] theorem setDb_waiting : (setDb v s).cpu.waiting = s.cpu.waiting := rfl
@[simp] theorem setDb_stopped : (setDb v s).cpu.stopped = s.cpu.stopped := rfl
@[simp] theorem setDb_decodeMisses : (setDb v s).cpu.decodeMisses = s.cpu.decodeMisses := rfl

end

section
variable (v : Byte)

@[simp] theorem setPb_bus : (setPb v s).bus = s.bus := rfl
@[simp] theorem setPb_sched : (setPb v s).sched = s.sched := rfl
@[simp] theorem setPb_params : (setPb v s).params = s.params := rfl
@[simp] theorem setPb_a : (setPb v s).cpu.a = s.cpu.a := rfl
@[simp] theorem setPb_x : (setPb v s).cpu.x = s.cpu.x := rfl
@[simp] theorem setPb_y : (setPb v s).cpu.y = s.cpu.y := rfl
@[simp] theorem setPb_s : (setPb v s).cpu.s = s.cpu.s := rfl
@[simp] theorem setPb_d : (setPb v s).cpu.d = s.cpu.d := rfl
@[simp] theorem setPb_db : (setPb v s).cpu.db = s.cpu.db := rfl
@[simp] theorem setPb_pb : (setPb v s).cpu.pb = v := rfl
@[simp] theorem setPb_pc : (setPb v s).cpu.pc = s.cpu.pc := rfl
@[simp] theorem setPb_p : (setPb v s).cpu.p = s.cpu.p := rfl
@[simp] theorem setPb_e : (setPb v s).cpu.e = s.cpu.e := rfl
@[simp] theorem setPb_cycles : (setPb v s).cpu.cycles = s.cpu.cycles := rfl
@[simp] theorem setPb_irqPending : (setPb v s).cpu.irqPending = s.cpu.irqPending := rfl
@[simp] theorem setPb_nmiPending : (setPb v s).cpu.nmiPending = s.cpu.nmiPending := rfl
@[simp] theorem setPb_waiting : (setPb v s).cpu.waiting = s.cpu.waiting := rfl
@[simp] theorem setPb_stopped : (setPb v s).cpu.stopped = s.cpu.stopped := rfl
@[simp] theorem setPb_decodeMisses : (setPb v s).cpu.decodeMisses = s.cpu.decodeMisses := rfl

end

section
variable (v : Word)

@[simp] theorem setPc_bus : (setPc v s).bus = s.bus := rfl
@[simp] theorem setPc_sched : (setPc v s).sched = s.sched := rfl
@[simp] theorem setPc_params : (setPc v s).params = s.params := rfl
@[simp] theorem setPc_a : (setPc v s).cpu.a = s.cpu.a := rfl
@[simp] theorem setPc_x : (setPc v s).cpu.x = s.cpu.x := rfl
@[simp] theorem setPc_y : (setPc v s).cpu.y = s.cpu.y := rfl
@[simp] theorem setPc_s : (setPc v s).cpu.s = s.cpu.s := rfl
@[simp] theorem setPc_d : (setPc v s).cpu.d = s.cpu.d := rfl
@[simp] theorem setPc_db : (setPc v s).cpu.db = s.cpu.db := rfl
@[simp] theorem setPc_pb : (setPc v s).cpu.pb = s.cpu.pb := rfl
@[simp] theorem setPc_pc : (setPc v s).cpu.pc = v := rfl
@[simp] theorem setPc_p : (setPc v s).cpu.p = s.cpu.p := rfl
@[simp] theorem setPc_e : (setPc v s).cpu.e = s.cpu.e := rfl
@[simp] theorem setPc_cycles : (setPc v s).cpu.cycles = s.cpu.cycles := rfl
@[simp] theorem setPc_irqPending : (setPc v s).cpu.irqPending = s.cpu.irqPending := rfl
@[simp] theorem setPc_nmiPending : (setPc v s).cpu.nmiPending = s.cpu.nmiPending := rfl
@[simp] theorem setPc_waiting : (setPc v s).cpu.waiting = s.cpu.waiting := rfl
@[simp] theorem setPc_stopped : (setPc v s).cpu.stopped = s.cpu.stopped := rfl
@[simp] theorem setPc_decodeMisses : (setPc v s).cpu.decodeMisses = s.cpu.decodeMisses := rfl

end

section
variable (v : Status)

@[simp] theorem setP_bus : (setP v s).bus = s.bus := rfl
@[simp] theorem setP_sched : (setP v s).sched = s.sched := rfl
@[simp] theorem setP_params : (setP v s).params = s.params := rfl
@[simp] theorem setP_a : (setP v s).cpu.a = s.cpu.a := rfl
@[simp] theorem setP_x : (setP v s).cpu.x = s.cpu.x := rfl
@[simp] theorem setP_y : (setP v s).cpu.y = s.cpu.y := rfl
@[simp] theorem setP_s : (setP v s).cpu.s = s.cpu.s := rfl
@[simp] theorem setP_d : (setP v s).cpu.d = s.cpu.d := rfl
@[simp] theorem setP_db : (setP v s).cpu.db = s.cpu.db := rfl
@[simp] theorem setP_pb : (setP v s).cpu.pb = s.cpu.pb := rfl
@[simp] theorem setP_pc : (setP v s).cpu.pc = s.cpu.pc := rfl
@[simp] theorem setP_p : (setP v s).cpu.p = v := rfl
@[simp] theorem setP_e : (setP v s).cpu.e = s.cpu.e := rfl
@[simp] theorem setP_cycles : (setP v s).cpu.cycles = s.cpu.cycles := rfl
@[simp] theorem setP_irqPending : (setP v s).cpu.irqPending = s.cpu.irqPending := rfl
@[simp] theorem setP_nmiPending : (setP v s).cpu.nmiPending = s.cpu.nmiPending := rfl
@[simp] theorem setP_waiting : (setP v s).cpu.waiting = s.cpu.waiting := rfl
@[simp] theorem setP_stopped : (setP v s).cpu.stopped = s.cpu.stopped := rfl
@[simp] theorem setP_decodeMisses : (setP v s).cpu.decodeMisses = s.cpu.decodeMisses := rfl

end

section
variable (w : Width) (v : Word)

@[simp] theorem setNZ_bus : (setNZ w v s).bus = s.bus := rfl
@[simp] theorem setNZ_sched : (setNZ w v s).sched = s.sched := rfl
@[simp] theorem setNZ_params : (setNZ w v s).params = s.params := rfl
@[simp] theorem setNZ_a : (setNZ w v s).cpu.a = s.cpu.a := rfl
@[simp] theorem setNZ_x : (setNZ w v s).cpu.x = s.cpu.x := rfl
@[simp] theorem setNZ_y : (setNZ w v s).cpu.y = s.cpu.y := rfl
@[simp] theorem setNZ_s : (setNZ w v s).cpu.s = s.cpu.s := rfl
@[simp] theorem setNZ_d : (setNZ w v s).cpu.d = s.cpu.d := rfl
@[simp] theorem setNZ_db : (setNZ w v s).cpu.db = s.cpu.db := rfl
@[simp] theorem setNZ_pb : (setNZ w v s).cpu.pb = s.cpu.pb := rfl
@[simp] theorem setNZ_pc : (setNZ w v s).cpu.pc = s.cpu.pc := rfl
@[simp] theorem setNZ_p : (setNZ w v s).cpu.p = s.cpu.p.setNZ w v := rfl
@[simp] theorem setNZ_e : (setNZ w v s).cpu.e = s.cpu.e := rfl
@[simp] theorem setNZ_cycles : (setNZ w v s).cpu.cycles = s.cpu.cycles := rfl
@[simp] theorem setNZ_irqPending : (setNZ w v s).cpu.irqPending = s.cpu.irqPending := rfl
@[simp] theorem setNZ_nmiPending : (setNZ w v s).cpu.nmiPending = s.cpu.nmiPending := rfl
@[simp] theorem setNZ_waiting : (setNZ w v s).cpu.waiting = s.cpu.waiting := rfl
@[simp] theorem setNZ_stopped : (setNZ w v s).cpu.stopped = s.cpu.stopped := rfl
@[simp] theorem setNZ_decodeMisses : (setNZ w v s).cpu.decodeMisses = s.cpu.decodeMisses := rfl

end

section
variable (n : Nat)

@[simp] theorem addCycles_bus : (addCycles n s).bus = s.bus := rfl
@[simp] theorem addCycles_sched : (addCycles n s).sched = s.sched := rfl
@[simp] theorem addCycles_params : (addCycles n s).params = s.params := rfl
@[simp] theorem addCycles_a : (addCycles n s).cpu.a = s.cpu.a := rfl
@[simp] theorem addCycles_x : (addCycles n s).cpu.x = s.cpu.x := rfl
@[simp] theorem addCycles_y : (addCycles n s).cpu.y = s.cpu.y := rfl
@[simp] theorem addCycles_s : (addCycles n s).cpu.s = s.cpu.s := rfl
@[simp] theorem addCycles_d : (addCycles n s).cpu.d = s.cpu.d := rfl
@[simp] theorem addCycles_db : (addCycles n s).cpu.db = s.cpu.db := rfl
@[simp] theorem addCycles_pb : (addCycles n s).cpu.pb = s.cpu.pb := rfl
@[simp] theorem addCycles_pc : (addCycles n s).cpu.pc = s.cpu.pc := rfl
@[simp] theorem addCycles_p : (addCycles n s).cpu.p = s.cpu.p := rfl
@[simp] theorem addCycles_e : (addCycles n s).cpu.e = s.cpu.e := rfl
@[simp] theorem addCycles_cycles : (addCycles n s).cpu.cycles = s.cpu.cycles + n := rfl
@[simp] theorem addCycles_irqPending : (addCycles n s).cpu.irqPending = s.cpu.irqPending := rfl
@[simp] theorem addCycles_nmiPending : (addCycles n s).cpu.nmiPending = s.cpu.nmiPending := rfl
@[simp] theorem addCycles_waiting : (addCycles n s).cpu.waiting = s.cpu.waiting := rfl
@[simp] theorem addCycles_stopped : (addCycles n s).cpu.stopped = s.cpu.stopped := rfl
@[simp] theorem addCycles_decodeMisses : (addCycles n s).cpu.decodeMisses = s.cpu.decodeMisses := rfl

end

@[simp] theorem enforceModes_bus : (enforceModes s).bus = s.bus := rfl
@[simp] theorem enforceModes_sched : (enforceModes s).sched = s.sched := rfl
@[simp] theorem enforceModes_params : (enforceModes s).params = s.params := rfl
@[simp] theorem enforceModes_cpu : (enforceModes s).cpu = s.cpu.enforceModes := rfl
@[simp] theorem enforceModes_a (c : Cpu) : c.enforceModes.a = c.a := rfl
@[simp] theorem enforceModes_d (c : Cpu) : c.enforceModes.d = c.d := rfl
@[simp] theorem enforceModes_db (c : Cpu) : c.enforceModes.db = c.db := rfl
@[simp] theorem enforceModes_pb (c : Cpu) : c.enforceModes.pb = c.pb := rfl
@[simp] theorem enforceModes_pc (c : Cpu) : c.enforceModes.pc = c.pc := rfl
@[simp] theorem enforceModes_e (c : Cpu) : c.enforceModes.e = c.e := rfl
@[simp] theorem enforceModes_cycles (c : Cpu) : c.enforceModes.cycles = c.cycles := rfl
@[simp] theorem enforceModes_irqPending (c : Cpu) : c.enforceModes.irqPending = c.irqPending := rfl
@[simp] theorem enforceModes_nmiPending (c : Cpu) : c.enforceModes.nmiPending = c.nmiPending := rfl
@[simp] theorem enforceModes_waiting (c : Cpu) : c.enforceModes.waiting = c.waiting := rfl
@[simp] theorem enforceModes_stopped (c : Cpu) : c.enforceModes.stopped = c.stopped := rfl
@[simp] theorem enforceModes_decodeMisses (c : Cpu) : c.enforceModes.decodeMisses = c.decodeMisses := rfl
@[simp] theorem enforceModes_s (c : Cpu) : c.enforceModes.s = stackValue c.e c.s := rfl

/-! ### Bus access: a read or write of a byte touches the bus alone. -/

section
variable (a : Addr) (v : Byte)

@[simp] theorem rd8_value : (rd8 a s).1 = (s.bus.rd8 a).1 := rfl
@[simp] theorem rd8_bus : (rd8 a s).2.bus = (s.bus.rd8 a).2 := rfl
@[simp] theorem rd8_cpu : (rd8 a s).2.cpu = s.cpu := rfl
@[simp] theorem rd8_sched : (rd8 a s).2.sched = s.sched := rfl
@[simp] theorem rd8_params : (rd8 a s).2.params = s.params := rfl
@[simp] theorem wr8_bus : (wr8 a v s).bus = s.bus.wr8 s.params.dmaLayout a v := rfl
@[simp] theorem wr8_cpu : (wr8 a v s).cpu = s.cpu := rfl
@[simp] theorem wr8_sched : (wr8 a v s).sched = s.sched := rfl
@[simp] theorem wr8_params : (wr8 a v s).params = s.params := rfl

end

end Sys2Proof.Machine
end

