-- ==== Sys2Proof/Laws/Ops.lean ====
section
/-! SUPPORT. What each shared operation does, said once: the widths and flag helpers as the rules write them, and the multi-byte reads,
writes, pushes and pulls as changes of the bus and of S. -/

namespace Sys2Proof.Machine

/-! ### Widths and flags -/

theorem lowByte_eq_and (v : Word) : zext (lowByte v) = v &&& 0x00FF := by
  apply BitVec.eq_of_toNat_eq
  simp
  exact (Nat.and_two_pow_sub_one_eq_mod v.toNat 8).symm

theorem Width.trunc_eq_and (w : Width) (v : Word) : w.trunc v = v &&& w.ones := by
  cases w
  · exact lowByte_eq_and v
  · exact (BitVec.and_allOnes (x := v)).symm

@[simp] theorem Width.trunc_trunc (w : Width) (v : Word) : w.trunc (w.trunc v) = w.trunc v := by
  cases w <;> simp [Width.trunc]

theorem Width.msb_eq (w : Width) (v : Word) : w.msb v = v.getLsbD (w.bits - 1) := by cases w <;> rfl

theorem Width.bitBelowMsb_eq (w : Width) (v : Word) : w.bitBelowMsb v = v.getLsbD (w.bits - 2) := by cases w <;> rfl

theorem setNZ_eq_nzOf (w : Width) (v : Word) (p : Status) : p.setNZ w v = nzOf w v p := by
  simp only [Status.setNZ, nzOf, Width.msb_eq]
  congr 1

theorem stackValue_eq (e : Bool) (v : Word) :
    stackValue e v = if e then 0x0100 ||| (v &&& 0x00FF) else v := by
  cases e
  · rfl
  · simp only [stackValue, ↓reduceIte]
    rw [← lowByte_eq_and]
    apply BitVec.eq_of_toNat_eq
    have h := (lowByte v).isLt
    simp only [wordOf_toNat, BitVec.toNat_or, zext_toNat]
    generalize (lowByte v).toNat = n at h ⊢
    have := Nat.two_pow_add_eq_or_of_lt (i := 8) h 1
    simp at this ⊢
    omega

theorem wordOf_eq_or (lo hi : Byte) : wordOf lo hi = (zext hi <<< 8) ||| zext lo := by
  apply BitVec.eq_of_toNat_eq
  have h := lo.isLt
  have h' := hi.isLt
  have := Nat.two_pow_add_eq_or_of_lt (i := 8) h hi.toNat
  simp [Nat.shiftLeft_eq]
  rw [Nat.mod_eq_of_lt (by omega), Nat.mul_comm hi.toNat, ← this]
  omega

theorem spliceA_eq (w : Width) (v a : Word) :
    (match w with | .w8 => wordOf (lowByte v) (highByte a) | .w16 => v) = spliceA w v a := by
  cases w
  · simp only [spliceA]
    rw [wordOf_eq_or]
    ext i hi
    simp [lowByte, highByte, zext]
    rcases i with _ | _ | _ | _ | _ | _ | _ | _ | _ | _ | _ | _ | _ | _ | _ | _ | i <;> simp_all
    omega
  · rfl

theorem setA_eq (w : Width) (v : Word) (s : State) :
    setA w v s = { s with cpu := { s.cpu with a := spliceA w v s.cpu.a } } := by
  rw [← spliceA_eq]
  rfl

/-! ### Bytes read and written -/

theorem rd8_eq (a : Addr) (s : State) : rd8 a s = ((s.bus.rd8 a).1, { s with bus := (s.bus.rd8 a).2 }) := rfl

theorem wr8_eq (a : Addr) (v : Byte) (s : State) :
    wr8 a v s = { s with bus := s.bus.wr8 s.params.dmaLayout a v } := rfl

/-- A read of bytes changes the bus alone. -/
theorem readNat_state (at_ : Nat → Addr) (n k : Nat) (s : State) :
    (readNat at_ n k s).2 = { s with bus := (readNat at_ n k s).2.bus } := by
  induction n generalizing k s with
  | zero => rfl
  | succ n ih =>
    simp only [readNat]
    rw [ih]
    rfl

/-- A read of bytes does not read the CPU. -/
theorem readNat_cpu (at_ : Nat → Addr) (n k : Nat) (s : State) (c : Cpu) :
    readNat at_ n k { s with cpu := c } = ((readNat at_ n k s).1, { (readNat at_ n k s).2 with cpu := c }) := by
  induction n generalizing k s with
  | zero => rfl
  | succ n ih =>
    have := ih (k + 1) (rd8 (at_ k) s).2
    simp only [readNat, rd8_eq] at this ⊢
    rw [this]

/-- Addresses that agree give the same read. -/
theorem readNat_congr {f g : Nat → Addr} (n k : Nat) (s : State) (h : ∀ i, f i = g i) :
    readNat f n k s = readNat g n k s := by rw [funext h]

theorem readNat_two (f : Nat → Addr) (s : State) :
    readNat f 2 0 s = ((rd8 (f 0) s).1.toNat + 256 * (rd8 (f 1) (rd8 (f 0) s).2).1.toNat, (rd8 (f 1) (rd8 (f 0) s).2).2) := by
  simp [readNat]

theorem readNat_three (f : Nat → Addr) (s : State) :
    readNat f 3 0 s =
      let lo := rd8 (f 0) s
      let mid := rd8 (f 1) lo.2
      let hi := rd8 (f 2) mid.2
      (lo.1.toNat + 256 * (mid.1.toNat + 256 * hi.1.toNat), hi.2) := by
  simp [readNat]

theorem readNat_lt (f : Nat → Addr) (n k : Nat) (s : State) : (readNat f n k s).1 < 256 ^ n := by
  induction n generalizing k s with
  | zero => simp [readNat]
  | succ n ih =>
    have h := (rd8 (f k) s).1.isLt
    have := ih (k + 1) (rd8 (f k) s).2
    simp only [readNat, Nat.pow_succ]
    omega

/-- `readWord` of a bank-0 address, as `MemRead0`. -/
theorem readWord_bank0 (o : Word) (s : State) :
    readWord (.bank0 o) s = (BitVec.ofNat 16 (memRead0 o.toNat 2 s).1, (memRead0 o.toNat 2 s).2) := by
  have h0 : addrOf 0 (o + BitVec.ofNat 16 0) = BitVec.ofNat 24 ((o.toNat + 0) % 65536) := by
    apply BitVec.eq_of_toNat_eq
    have := o.isLt
    simp
    omega
  have h1 : addrOf 0 (o + BitVec.ofNat 16 1) = BitVec.ofNat 24 ((o.toNat + 1) % 65536) := by
    apply BitVec.eq_of_toNat_eq
    have := o.isLt
    simp
    omega
  simp only [memRead0, readNat_two, readWord, Ea.byteAddr, h0, h1]
  rfl

/-- `readLong` of a bank-0 address, as `MemRead0`. -/
theorem readLong_bank0 (o : Word) (s : State) :
    readLong (.bank0 o) s = (BitVec.ofNat 24 (memRead0 o.toNat 3 s).1, (memRead0 o.toNat 3 s).2) := by
  have h (k : Nat) (hk : k < 3) : addrOf 0 (o + BitVec.ofNat 16 k) = BitVec.ofNat 24 ((o.toNat + k) % 65536) := by
    apply BitVec.eq_of_toNat_eq
    have := o.isLt
    simp
    omega
  simp only [memRead0, readNat_three, readLong, readWord, Ea.byteAddr, h 0 (by omega), h 1 (by omega), h 2 (by omega)]
  congr 1
  apply BitVec.eq_of_toNat_eq
  simp
  omega

/-- An effective address changes the bus alone. -/
theorem effAddr_state (m : Mode) (s : State) : (effAddr m s).2 = { s with bus := (effAddr m s).2.bus } := by
  cases m <;> rfl

/-- `Read(ea, w / 8)` as bytes. -/
theorem readEa_eq (e : Ea) (w : Width) (s : State) :
    readEa e w s = (BitVec.ofNat 16 (readAt e w.bytes s).1, (readAt e w.bytes s).2) := by
  cases e with
  | lin a =>
    have h (k : Nat) : a + BitVec.ofNat 24 k = BitVec.ofNat 24 (a.toNat + k) := by
      apply BitVec.eq_of_toNat_eq
      simp
    cases w
    · simp only [readEa, readAt, memRead, Width.bytes, readNat, Ea.byteAddr, h]
      congr 1
      apply BitVec.eq_of_toNat_eq
      simp
      omega
    · simp only [readEa, readAt, memRead, Width.bytes, readNat_two, Ea.byteAddr, readWord, h]
      rfl
  | bank0 o =>
    cases w
    · have h0 : addrOf 0 (o + BitVec.ofNat 16 0) = BitVec.ofNat 24 ((o.toNat + 0) % 65536) := by
        apply BitVec.eq_of_toNat_eq
        have := o.isLt
        simp
        omega
      simp only [readEa, readAt, memRead0, Width.bytes, readNat, Ea.byteAddr, h0]
      congr 1
      apply BitVec.eq_of_toNat_eq
      simp
      omega
    · exact readWord_bank0 o s

theorem readAt_state (e : Ea) (n : Nat) (s : State) : (readAt e n s).2 = { s with bus := (readAt e n s).2.bus } := by
  cases e <;> exact readNat_state _ _ _ _

/-- A value read at a width fits it. -/
theorem readEa_and (e : Ea) (w : Width) (s : State) : (readEa e w s).1 &&& w.ones = (readEa e w s).1 := by
  cases w
  · simp only [readEa, Width.ones, ← lowByte_eq_and, lowByte_zext]
  · exact BitVec.and_allOnes

/-- Reading an operand changes the bus alone. -/
theorem operand_state (src : Src) (w : Width) (s : State) :
    (operand src w s).2 = { s with bus := (operand src w s).2.bus } := by
  cases src with
  | imm c => rfl
  | acc => rfl
  | mem m =>
    simp only [operand, readEa_eq]
    rw [readAt_state, effAddr_state]

@[simp] theorem operand_cpu (src : Src) (w : Width) (s : State) : (operand src w s).2.cpu = s.cpu := by rw [operand_state]

@[simp] theorem operand_sched (src : Src) (w : Width) (s : State) : (operand src w s).2.sched = s.sched := by
  rw [operand_state]

@[simp] theorem operand_params (src : Src) (w : Width) (s : State) : (operand src w s).2.params = s.params := by
  rw [operand_state]

/-- An operand fits its width. -/
theorem operand_and (src : Src) (w : Width) (s : State) : (operand src w s).1 &&& w.ones = (operand src w s).1 := by
  cases src with
  | imm c => simp [operand, Width.trunc_eq_and, BitVec.and_assoc]
  | acc => simp [operand, Width.trunc_eq_and, BitVec.and_assoc]
  | mem m => exact readEa_and _ _ _

/-- A write at an effective address is its stores to the bus. -/
theorem writeEa_eq (e : Ea) (w : Width) (v : Word) (s : State) : writeEa e w v s = { s with bus := storeAt e w v s } := by
  cases e <;> cases w <;> simp [writeEa, storeAt, wr8_eq, Ea.byteAddr]

/-! ### Stack -/

theorem slotDown_zero (e : Bool) (sp : Word) : slotDown e sp 0 = sp := by simp [slotDown]

/-- S after one more byte. -/
theorem slotDown_succ (e : Bool) (sp : Word) (k : Nat) :
    stackValue e (slotDown e sp k - 1) = slotDown e sp (k + 1) := by
  rw [stackValue_eq]
  cases e
  · simp [slotDown]
    bv_omega
  · by_cases hk : k = 0
    · subst hk
      simp [slotDown]
    · simp only [slotDown, hk, ne_eq, not_false_eq_true, and_self, ↓reduceIte, Nat.add_eq_zero_iff, one_ne_zero]
      simp only [← lowByte_eq_and]
      congr 2
      apply BitVec.eq_of_toNat_eq
      simp only [lowByte_toNat, BitVec.toNat_sub, BitVec.toNat_or, zext_toNat, BitVec.toNat_ofNat]
      have hl := (lowByte (sp - BitVec.ofNat 16 k)).isLt
      have := Nat.two_pow_add_eq_or_of_lt (i := 8) (b := (sp - BitVec.ofNat 16 k).toNat % 256) (by omega) 1
      simp only [BitVec.toNat_sub, BitVec.toNat_ofNat] at this
      simp at this ⊢
      rw [← this]
      omega

/-- The slot after one more pulled byte. -/
theorem slotUp_succ (e : Bool) (sp : Word) (k : Nat) :
    stackValue e ((if k = 0 then sp else slotUp e sp k) + 1) = slotUp e sp (k + 1) := by
  rw [stackValue_eq]
  cases e
  · by_cases hk : k = 0
    · simp [slotUp, hk]
    · simp [slotUp, hk]
      bv_omega
  · by_cases hk : k = 0
    · subst hk
      simp [slotUp]
    · simp only [slotUp, hk, ↓reduceIte]
      simp only [← lowByte_eq_and]
      congr 2
      apply BitVec.eq_of_toNat_eq
      simp only [lowByte_toNat, BitVec.toNat_add, BitVec.toNat_or, zext_toNat, BitVec.toNat_ofNat]
      have := Nat.two_pow_add_eq_or_of_lt (i := 8) (b := (sp + BitVec.ofNat 16 k).toNat % 256) (by omega) 1
      simp only [BitVec.toNat_add, BitVec.toNat_ofNat] at this
      simp at this ⊢
      rw [← this]
      omega

theorem pushBus_append (lay : Layout) (e : Bool) (sp : Word) (k : Nat) (vs : List Byte) (v : Byte) (b : Bus) :
    pushBus lay e sp k (vs ++ [v]) b =
      (pushBus lay e sp k vs b).wr8 lay (addrOf 0 (slotDown e sp (k + vs.length))) v := by
  induction vs generalizing k b with
  | nil => rfl
  | cons u vs ih => simp [pushBus, ih, Nat.add_assoc, Nat.add_comm 1]

/-- Nothing pushed. -/
theorem pushed_nil (s : State) : pushed [] s = s := by simp [pushed, pushBus, slotDown_zero]

/-- One byte more. -/
theorem push8_pushed (v : Byte) (vs : List Byte) (s : State) : push8 v (pushed vs s) = pushed (vs ++ [v]) s := by
  simp only [push8, pushed, wr8_eq, setS, pushBus_append, List.length_append, List.length_singleton, slotDown_succ,
    Nat.zero_add]

theorem push8_eq (v : Byte) (s : State) : push8 v s = pushed [v] s := by
  have := push8_pushed v [] s
  rwa [pushed_nil] at this

theorem push16_pushed (v : Word) (vs : List Byte) (s : State) :
    push16 v (pushed vs s) = pushed (vs ++ [highByte v, lowByte v]) s := by
  simp [push16, push8_pushed]

theorem push16_eq (v : Word) (s : State) : push16 v s = pushed [highByte v, lowByte v] s := by
  simp [push16, push8_eq (highByte v), push8_pushed]

theorem pushW_eq (w : Width) (v : Word) (s : State) :
    pushW w v s = match w with
      | .w8 => pushed [lowByte v] s
      | .w16 => pushed [highByte v, lowByte v] s := by
  cases w
  · exact push8_eq _ s
  · exact push16_eq _ s

theorem pull8_eq (s : State) : pull8 s = ((pulled 1 s).1.getD 0 0, (pulled 1 s).2) := by
  have h := slotUp_succ s.cpu.e s.cpu.s 0
  simp at h
  simp [pull8, pulled, pullBus, rd8_eq, setS, h]

theorem pullBus_succ (e : Bool) (sp : Word) (k n : Nat) (b : Bus) :
    pullBus e sp k (n + 1) b =
      let q := pullBus e sp k n b
      let r := q.2.rd8 (addrOf 0 (slotUp e sp (k + n)))
      (q.1 ++ [r.1], r.2) := by
  induction n generalizing k b with
  | zero => rfl
  | succ n ih =>
    rw [pullBus, ih]
    simp [pullBus, Nat.add_assoc, Nat.add_comm 1]

theorem pulled_length (n : Nat) (s : State) : (pulled n s).1.length = n := by
  have h : ∀ n k b, (pullBus s.cpu.e s.cpu.s k n b).1.length = n := by
    intro n
    induction n with
    | zero => intro k b; rfl
    | succ n ih => intro k b; simp [pullBus, ih]
  exact h n 1 s.bus

/-- A byte pulled after `n` others, n at least 1. -/
theorem pull8_pulled (n : Nat) (hn : n ≠ 0) (s : State) :
    pull8 (pulled n s).2 = ((pulled (n + 1) s).1.getD n 0, (pulled (n + 1) s).2) := by
  have h := slotUp_succ s.cpu.e s.cpu.s n
  simp only [hn, ↓reduceIte] at h
  have hl := pulled_length n s
  simp only [pulled] at hl
  simp only [pull8, pulled, rd8_eq, setS, h, pullBus_succ, Nat.add_comm 1 n]
  simp [List.getD, hl]

theorem pulled_take (n : Nat) (s : State) : (pulled (n + 1) s).1.take n = (pulled n s).1 := by
  have hl := pulled_length n s
  simp only [pulled] at hl ⊢
  rw [pullBus_succ]
  simp [hl]

theorem pull16_eq (s : State) : pull16 s = (BitVec.ofNat 16 (leNat (pulled 2 s).1), (pulled 2 s).2) := by
  simp only [pull16, pull8_eq s, pull8_pulled 1 (by decide)]
  rfl

theorem pullW_eq (w : Width) (s : State) :
    pullW w s = (BitVec.ofNat 16 (leNat (pulled w.bytes s).1), (pulled w.bytes s).2) := by
  cases w
  · simp only [pullW, pull8_eq, Width.bytes]
    congr 1
    apply BitVec.eq_of_toNat_eq
    simp [pulled, pullBus, leNat]
    omega
  · exact pull16_eq s

/-! ### Modes and interrupts -/

theorem enforceModes_eq (p : Status) (c : Cpu) : ({ c with p := p } : Cpu).enforceModes = withStatus p c := by
  simp only [Cpu.enforceModes, withStatus, stackValue_eq, lowByte_eq_and]
  cases c.e <;> simp

theorem enforceModes_modeOk (c : Cpu) : c.enforceModes.ModeOk := by
  constructor <;> simp only [Cpu.enforceModes] <;> intro h
  · simp [h]
  · simp [h]
  · simp [stackValue, h]
  · simp [h]
  · simp [h]

/-- The constraints hold, so enforcing them changes nothing. -/
theorem enforceModes_of_modeOk {c : Cpu} (h : c.ModeOk) : c.enforceModes = c := by
  have hx : ∀ v : Word, highByte v = 0 → zext (lowByte v) = v := by
    intro v hv
    have := congrArg BitVec.toNat hv
    apply BitVec.eq_of_toNat_eq
    simp at this ⊢
    omega
  have hs : c.e = true → wordOf (lowByte c.s) 0x01 = c.s := by
    intro he
    rw [← h.emulation_s he]
    exact wordOf_bytes c.s
  obtain ⟨a, x, y, s, d, db, pb, pc, ⟨n, v, m, px, pd, i, z, cc⟩, e, c1, c2, c3, c4, c5, c6⟩ := c
  obtain ⟨h1, h2, h3, h4, h5⟩ := h
  simp only [Cpu.enforceModes, stackValue] at *
  cases e <;> cases px <;> simp_all

/-- Taking an interrupt is its pushes, the status, PB, the latch and the vector. -/
theorem raiseInterrupt_eq (k : Interrupt) (s : State) :
    raiseInterrupt k s =
      let t := pushed ((if s.cpu.e then [] else [s.cpu.pb]) ++
        [highByte s.cpu.pc, lowByte s.cpu.pc, (k.pushedStatus s.cpu).toByte]) s
      let r := memRead0 (k.vector s.cpu.e).toNat 2 t
      { t with
        bus := r.2.bus
        cpu := { t.cpu with
          p := { s.cpu.p with i := true, d := s.cpu.e && s.cpu.p.d }
          pb := 0
          pc := BitVec.ofNat 16 r.1
          nmiPending := if k = .nmi then false else s.cpu.nmiPending } } := by
  have key : ∀ (t : State) (c : Cpu) (v : Word),
      setPc (readWord (.bank0 v) { t with cpu := c }).1 (readWord (.bank0 v) { t with cpu := c }).2 =
        { t with
          bus := (memRead0 v.toNat 2 t).2.bus
          cpu := { c with pc := BitVec.ofNat 16 (memRead0 v.toNat 2 t).1 } } := by
    intro t c v
    have h := readNat_state (fun k => BitVec.ofNat 24 ((v.toNat + k) % 65536)) 2 0 t
    rw [readWord_bank0, memRead0, readNat_cpu, h]
    rfl
  have fin : ∀ vs, (setPc (readWord (.bank0 (k.vector s.cpu.e)) { pushed vs s with cpu := { (pushed vs s).cpu with
        p := { s.cpu.p with i := true, d := s.cpu.e && s.cpu.p.d }
        pb := 0
        nmiPending := if k = .nmi then false else s.cpu.nmiPending } }).1
      (readWord (.bank0 (k.vector s.cpu.e)) { pushed vs s with cpu := { (pushed vs s).cpu with
        p := { s.cpu.p with i := true, d := s.cpu.e && s.cpu.p.d }
        pb := 0
        nmiPending := if k = .nmi then false else s.cpu.nmiPending } }).2) = _ := fun vs => key (pushed vs s) _ _
  by_cases he : s.cpu.e = true
  · have h1 : push16 s.cpu.pc s = pushed [highByte s.cpu.pc, lowByte s.cpu.pc] s := push16_eq _ s
    simp only [raiseInterrupt, if_pos he, h1, push8_pushed]
    cases k <;> exact fin _
  · have h1 : push8 s.cpu.pb s = pushed [s.cpu.pb] s := push8_eq _ s
    have h2 : push16 s.cpu.pc (pushed [s.cpu.pb] s) = pushed ([s.cpu.pb] ++ [highByte s.cpu.pc, lowByte s.cpu.pc]) s :=
      push16_pushed _ _ s
    simp only [raiseInterrupt, if_neg he, h1]
    rw [show (pushed [s.cpu.pb] s).cpu.pc = s.cpu.pc from rfl, h2, push8_pushed]
    cases k <;> exact fin _

end Sys2Proof.Machine
end

