-- ==== Sys2Proof/Laws/Keeps.lean ====
section
/-! SUPPORT. What no instruction touches: the scheduler, the parameters and the cycle counter stay, and the bus changes only by reads and
writes of bytes, so every stable property of the bus stays. One lemma for each shared operation. -/

namespace Sys2Proof.Machine

/-- `t` comes from `s` by an instruction's own doing: scheduler, parameters, cycle counter and interrupt inputs as before, and every
stable property of the bus kept. -/
structure Keeps (s t : State) : Prop where
  sched : t.sched = s.sched
  params : t.params = s.params
  cycles : t.cpu.cycles = s.cpu.cycles
  decodeMisses : t.cpu.decodeMisses = s.cpu.decodeMisses
  irqPending : t.cpu.irqPending = s.cpu.irqPending
  bus : ∀ P, Bus.Stable P → P s.bus → P t.bus

namespace Keeps

variable {s t u : State}

theorem refl (s : State) : Keeps s s := ⟨rfl, rfl, rfl, rfl, rfl, fun _ _ h => h⟩

theorem trans (h : Keeps s t) (g : Keeps t u) : Keeps s u :=
  ⟨g.sched.trans h.sched, g.params.trans h.params, g.cycles.trans h.cycles, g.decodeMisses.trans h.decodeMisses,
    g.irqPending.trans h.irqPending, fun P hP hs => g.bus P hP (h.bus P hP hs)⟩

/-- A change of CPU registers alone. -/
theorem cpu (h : Keeps s t) {c : Cpu} (h1 : c.cycles = t.cpu.cycles) (h2 : c.decodeMisses = t.cpu.decodeMisses)
    (h3 : c.irqPending = t.cpu.irqPending) : Keeps s { t with cpu := c } :=
  ⟨h.sched, h.params, h1.trans h.cycles, h2.trans h.decodeMisses, h3.trans h.irqPending, h.bus⟩

theorem setA (w : Width) (v : Word) (h : Keeps s t) : Keeps s (setA w v t) := h.cpu rfl rfl rfl
theorem setX (w : Width) (v : Word) (h : Keeps s t) : Keeps s (setX w v t) := h.cpu rfl rfl rfl
theorem setY (w : Width) (v : Word) (h : Keeps s t) : Keeps s (setY w v t) := h.cpu rfl rfl rfl
theorem setS (v : Word) (h : Keeps s t) : Keeps s (setS v t) := h.cpu rfl rfl rfl
theorem setD (v : Word) (h : Keeps s t) : Keeps s (setD v t) := h.cpu rfl rfl rfl
theorem setDb (v : Byte) (h : Keeps s t) : Keeps s (setDb v t) := h.cpu rfl rfl rfl
theorem setPb (v : Byte) (h : Keeps s t) : Keeps s (setPb v t) := h.cpu rfl rfl rfl
theorem setPc (v : Word) (h : Keeps s t) : Keeps s (setPc v t) := h.cpu rfl rfl rfl
theorem setP (v : Status) (h : Keeps s t) : Keeps s (setP v t) := h.cpu rfl rfl rfl
theorem setNZ (w : Width) (v : Word) (h : Keeps s t) : Keeps s (setNZ w v t) := h.cpu rfl rfl rfl
theorem enforceModes (h : Keeps s t) : Keeps s (enforceModes t) := h.cpu rfl rfl rfl

theorem rd8 (a : Addr) (h : Keeps s t) : Keeps s (rd8 a t).2 :=
  h.trans ⟨rfl, rfl, rfl, rfl, rfl, fun _ hP hs => hP.rd8 hs a⟩

theorem wr8 (a : Addr) (v : Byte) (h : Keeps s t) : Keeps s (wr8 a v t) :=
  h.trans ⟨rfl, rfl, rfl, rfl, rfl, fun _ hP hs => hP.wr8 hs _ a v⟩

theorem readWord (e : Ea) (h : Keeps s t) : Keeps s (readWord e t).2 := (h.rd8 _).rd8 _

theorem readLong (e : Ea) (h : Keeps s t) : Keeps s (readLong e t).2 := (h.readWord _).rd8 _

theorem readBankWord (bank : Byte) (o : Word) (h : Keeps s t) : Keeps s (readBankWord bank o t).2 := (h.rd8 _).rd8 _

theorem readEa (e : Ea) (w : Width) (h : Keeps s t) : Keeps s (readEa e w t).2 := by
  cases w
  · exact h.rd8 _
  · exact h.readWord _

theorem writeEa (e : Ea) (w : Width) (v : Word) (h : Keeps s t) : Keeps s (writeEa e w v t) := by
  cases w
  · exact h.wr8 _ _
  · exact (h.wr8 _ _).wr8 _ _

theorem effAddr (m : Mode) (h : Keeps s t) : Keeps s (effAddr m t).2 := by
  cases m
  case dpind => exact h.readWord _
  case dpindl => exact h.readLong _
  case dpxind => exact h.readWord _
  case dpindy => exact h.readWord _
  case dpindly => exact h.readLong _
  case sriy => exact h.readWord _
  all_goals exact h

theorem operand (src : Src) (w : Width) (h : Keeps s t) : Keeps s (operand src w t).2 := by
  cases src
  case mem m => exact (h.effAddr m).readEa _ _
  all_goals exact h

theorem readModifyWrite (m : Mode) (w : Width) (f : Word → Word) {g : Word → State → State}
    (hg : ∀ v u, Keeps u (g v u)) (h : Keeps s t) : Keeps s (readModifyWrite m w f g t) :=
  (((h.effAddr m).readEa _ _).writeEa _ _ _).trans (hg _ _)

theorem push8 (v : Byte) (h : Keeps s t) : Keeps s (push8 v t) := (h.wr8 _ _).setS _

theorem pull8 (h : Keeps s t) : Keeps s (pull8 t).2 := (h.setS _).rd8 _

theorem push16 (v : Word) (h : Keeps s t) : Keeps s (push16 v t) := (h.push8 _).push8 _

theorem pull16 (h : Keeps s t) : Keeps s (pull16 t).2 := h.pull8.pull8

theorem pushW (w : Width) (v : Word) (h : Keeps s t) : Keeps s (pushW w v t) := by
  cases w
  · exact h.push8 _
  · exact h.push16 _

theorem pullW (w : Width) (h : Keeps s t) : Keeps s (pullW w t).2 := by
  cases w
  · exact h.pull8
  · exact h.pull16

theorem fetch8 (h : Keeps s t) : Keeps s (fetch8 t).2 := (h.rd8 _).setPc _

theorem fetchBytes (n : Nat) (h : Keeps s t) : Keeps s (fetchBytes n t).2 := by
  induction n generalizing t with
  | zero => exact h
  | succ n ih => exact ih h.fetch8

theorem raiseInterrupt (k : Interrupt) (h : Keeps s t) : Keeps s (raiseInterrupt k t) := by
  have hite : ∀ {c : Prop} [Decidable c] {a b : State}, Keeps s a → Keeps s b → Keeps s (if c then a else b) := by
    intro c _ a b ha hb
    split <;> assumption
  have h1 : ∀ u, Keeps s u → Keeps s (if k = .nmi then { u with cpu := { u.cpu with nmiPending := false } } else u) :=
    fun u hu => hite (hu.cpu rfl rfl rfl) hu
  exact ((h1 _ ((((hite h (h.push8 _)).push16 _).push8 _).setP _ |>.setPb _)).readWord _).setPc _

theorem returnFromInterrupt (h : Keeps s t) : Keeps s (returnFromInterrupt t) := by
  have hq := (((h.pull8).setP (Status.ofByte (Machine.pull8 t).1)).enforceModes.pull16.setPc
    (Machine.pull16 (Machine.enforceModes (Machine.setP (Status.ofByte (Machine.pull8 t).1) (Machine.pull8 t).2))).1)
  unfold Machine.returnFromInterrupt
  simp only
  split
  · exact hq
  · exact hq.pull8.setPb _

/-! ### Meanings -/

theorem opLogic (f : Word → Word → Word) (src : Src) : Keeps s (opLogic f src s) := (((refl s).operand _ _).setA _ _).setNZ _ _
theorem opLda (src : Src) : Keeps s (opLda src s) := (((refl s).operand _ _).setA _ _).setNZ _ _
theorem opLdx (src : Src) : Keeps s (opLdx src s) := (((refl s).operand _ _).setX _ _).setNZ _ _
theorem opLdy (src : Src) : Keeps s (opLdy src s) := (((refl s).operand _ _).setY _ _).setNZ _ _
theorem opAdc (src : Src) : Keeps s (opAdc src s) := (((refl s).operand _ _).setP _).setA _ _
theorem opSbc (src : Src) : Keeps s (opSbc src s) := (((refl s).operand _ _).setP _).setA _ _
theorem opCompare (w : Width) (v : Word) (src : Src) : Keeps s (opCompare w v src s) := ((refl s).operand _ _).setP _
theorem opBitMem (m : Mode) : Keeps s (opBitMem m s) := ((refl s).operand _ _).setP _
theorem opBitImm (c : Word) : Keeps s (opBitImm c s) := (refl s).setP _
theorem opStore (m : Mode) (w : Width) (v : Word) : Keeps s (opStore m w v s) := ((refl s).effAddr m).writeEa _ _ _

theorem opTsb (m : Mode) : Keeps s (opTsb m s) := by
  unfold Machine.opTsb
  exact (refl s).readModifyWrite _ _ _ fun _ u => (refl u).setP _

theorem opTrb (m : Mode) : Keeps s (opTrb m s) := by
  unfold Machine.opTrb
  exact (refl s).readModifyWrite _ _ _ fun _ u => (refl u).setP _

theorem opShiftMem (op : Shift) (m : Mode) : Keeps s (opShiftMem op m s) := by
  unfold Machine.opShiftMem
  exact (refl s).readModifyWrite _ _ _ fun _ u => (refl u).setP _

theorem opBumpMem (v : Word) (m : Mode) : Keeps s (opBumpMem v m s) := by
  unfold Machine.opBumpMem
  exact (refl s).readModifyWrite _ _ _ fun _ u => (refl u).setNZ _ _

theorem opShiftA (op : Shift) : Keeps s (opShiftA op s) := ((refl s).setA _ _).setP _
theorem opBumpA (v : Word) : Keeps s (opBumpA v s) := ((refl s).setA _ _).setNZ _ _
theorem opBumpX (v : Word) : Keeps s (opBumpX v s) := ((refl s).setX _ _).setNZ _ _
theorem opBumpY (v : Word) : Keeps s (opBumpY v s) := ((refl s).setY _ _).setNZ _ _
theorem transferToA (v : Word) : Keeps s (transferToA v s) := ((refl s).setA _ _).setNZ _ _
theorem transferToX (v : Word) : Keeps s (transferToX v s) := ((refl s).setX _ _).setNZ _ _
theorem transferToY (v : Word) : Keeps s (transferToY v s) := ((refl s).setY _ _).setNZ _ _

theorem opBranch (c : Bool) (r : Byte) : Keeps s (opBranch c r s) := by
  unfold Machine.opBranch
  split
  · exact (refl s).setPc _
  · exact refl s

theorem jumpLong (a : Addr) (h : Keeps s t) : Keeps s (jumpLong a t) := (h.setPc _).setPb _
theorem jumpIndexed (a : Word) (h : Keeps s t) : Keeps s (jumpIndexed a t) := (h.readBankWord _ _).setPc _
theorem pushReturn (h : Keeps s t) : Keeps s (pushReturn t) := h.push16 _
theorem opJmpInd (a : Word) : Keeps s (opJmpInd a s) := ((refl s).readWord _).setPc _
theorem opJmlInd (a : Word) : Keeps s (opJmlInd a s) := ((refl s).readLong _).jumpLong _
theorem opRts (h : Keeps s t) : Keeps s (opRts t) := h.pull16.setPc _
theorem opRtl (h : Keeps s t) : Keeps s (opRtl t) := h.opRts.pull8.setPb _
theorem opPei (d : Byte) : Keeps s (opPei d s) := ((refl s).readWord _).push16 _
theorem opPla : Keeps s (opPla s) := (((refl s).pullW _).setA _ _).setNZ _ _
theorem opPlx : Keeps s (opPlx s) := (((refl s).pullW _).setX _ _).setNZ _ _
theorem opPly : Keeps s (opPly s) := (((refl s).pullW _).setY _ _).setNZ _ _
theorem opPlp : Keeps s (opPlp s) := ((refl s).pull8.setP _).enforceModes
theorem opPlb : Keeps s (opPlb s) := ((refl s).pull8.setDb _).setNZ _ _
theorem opPld : Keeps s (opPld s) := ((refl s).pull16.setD _).setNZ _ _
theorem opRep (c : Byte) : Keeps s (opRep c s) := ((refl s).setP _).enforceModes
theorem opSep (c : Byte) : Keeps s (opSep c s) := ((refl s).setP _).enforceModes

theorem opXce : Keeps s (opXce s) := by
  unfold Machine.opXce
  exact (cpu (c := { s.cpu with e := s.cpu.p.c, p := { s.cpu.p with c := s.cpu.e } }) (refl s) rfl rfl rfl).enforceModes

theorem opBlockMove (v : Word) (dst src : Byte) : Keeps s (opBlockMove v dst src s) := by
  have h := ((((((refl s).setDb dst).rd8 (addrOf src (Machine.setDb dst s).cpu.x)).wr8 (addrOf dst s.cpu.y)
    (Machine.rd8 (addrOf src (Machine.setDb dst s).cpu.x) (Machine.setDb dst s)).1).setX (wX s) (s.cpu.x + v)).setY (wX s)
      (s.cpu.y + v)).setA .w16 (s.cpu.a - 1)
  unfold Machine.opBlockMove
  simp only
  split
  · exact h
  · exact h.setPc _

end Keeps

/-- Every instruction answers a next state, and keeps what no instruction touches. -/
theorem exec_keeps (i : Instr) (s : State) : ∃ t, exec i s = .next t ∧ Keeps s t :=
  match i with
  | .brkSig _ => ⟨_, rfl, (Keeps.refl s).raiseInterrupt _⟩
  | .oraDpxind _ => ⟨_, rfl, .opLogic _ _⟩
  | .copSig _ => ⟨_, rfl, (Keeps.refl s).raiseInterrupt _⟩
  | .oraSr _ => ⟨_, rfl, .opLogic _ _⟩
  | .tsbDp _ => ⟨_, rfl, .opTsb _⟩
  | .oraDp _ => ⟨_, rfl, .opLogic _ _⟩
  | .aslDp _ => ⟨_, rfl, .opShiftMem _ _⟩
  | .oraDpindl _ => ⟨_, rfl, .opLogic _ _⟩
  | .php => ⟨_, rfl, (Keeps.refl s).push8 _⟩
  | .oraImm _ => ⟨_, rfl, .opLogic _ _⟩
  | .aslAcc => ⟨_, rfl, .opShiftA _⟩
  | .phd => ⟨_, rfl, (Keeps.refl s).push16 _⟩
  | .tsbAbs _ => ⟨_, rfl, .opTsb _⟩
  | .oraAbs _ => ⟨_, rfl, .opLogic _ _⟩
  | .aslAbs _ => ⟨_, rfl, .opShiftMem _ _⟩
  | .oraLong _ => ⟨_, rfl, .opLogic _ _⟩
  | .bplRel _ => ⟨_, rfl, .opBranch _ _⟩
  | .oraDpindy _ => ⟨_, rfl, .opLogic _ _⟩
  | .oraDpind _ => ⟨_, rfl, .opLogic _ _⟩
  | .oraSriy _ => ⟨_, rfl, .opLogic _ _⟩
  | .trbDp _ => ⟨_, rfl, .opTrb _⟩
  | .oraDpx _ => ⟨_, rfl, .opLogic _ _⟩
  | .aslDpx _ => ⟨_, rfl, .opShiftMem _ _⟩
  | .oraDpindly _ => ⟨_, rfl, .opLogic _ _⟩
  | .clc => ⟨_, rfl, (Keeps.refl s).setP _⟩
  | .oraAbsy _ => ⟨_, rfl, .opLogic _ _⟩
  | .incAcc => ⟨_, rfl, .opBumpA _⟩
  | .tcs => ⟨_, rfl, (Keeps.refl s).setS _⟩
  | .trbAbs _ => ⟨_, rfl, .opTrb _⟩
  | .oraAbsx _ => ⟨_, rfl, .opLogic _ _⟩
  | .aslAbsx _ => ⟨_, rfl, .opShiftMem _ _⟩
  | .oraLongx _ => ⟨_, rfl, .opLogic _ _⟩
  | .jsrAbs _ => ⟨_, rfl, (Keeps.refl s).pushReturn.setPc _⟩
  | .andDpxind _ => ⟨_, rfl, .opLogic _ _⟩
  | .jslLong _ => ⟨_, rfl, ((Keeps.refl s).push8 _).pushReturn.jumpLong _⟩
  | .andSr _ => ⟨_, rfl, .opLogic _ _⟩
  | .bitDp _ => ⟨_, rfl, .opBitMem _⟩
  | .andDp _ => ⟨_, rfl, .opLogic _ _⟩
  | .rolDp _ => ⟨_, rfl, .opShiftMem _ _⟩
  | .andDpindl _ => ⟨_, rfl, .opLogic _ _⟩
  | .plp => ⟨_, rfl, .opPlp⟩
  | .andImm _ => ⟨_, rfl, .opLogic _ _⟩
  | .rolAcc => ⟨_, rfl, .opShiftA _⟩
  | .pld => ⟨_, rfl, .opPld⟩
  | .bitAbs _ => ⟨_, rfl, .opBitMem _⟩
  | .andAbs _ => ⟨_, rfl, .opLogic _ _⟩
  | .rolAbs _ => ⟨_, rfl, .opShiftMem _ _⟩
  | .andLong _ => ⟨_, rfl, .opLogic _ _⟩
  | .bmiRel _ => ⟨_, rfl, .opBranch _ _⟩
  | .andDpindy _ => ⟨_, rfl, .opLogic _ _⟩
  | .andDpind _ => ⟨_, rfl, .opLogic _ _⟩
  | .andSriy _ => ⟨_, rfl, .opLogic _ _⟩
  | .bitDpx _ => ⟨_, rfl, .opBitMem _⟩
  | .andDpx _ => ⟨_, rfl, .opLogic _ _⟩
  | .rolDpx _ => ⟨_, rfl, .opShiftMem _ _⟩
  | .andDpindly _ => ⟨_, rfl, .opLogic _ _⟩
  | .sec => ⟨_, rfl, (Keeps.refl s).setP _⟩
  | .andAbsy _ => ⟨_, rfl, .opLogic _ _⟩
  | .decAcc => ⟨_, rfl, .opBumpA _⟩
  | .tsc => ⟨_, rfl, ((Keeps.refl s).setA _ _).setNZ _ _⟩
  | .bitAbsx _ => ⟨_, rfl, .opBitMem _⟩
  | .andAbsx _ => ⟨_, rfl, .opLogic _ _⟩
  | .rolAbsx _ => ⟨_, rfl, .opShiftMem _ _⟩
  | .andLongx _ => ⟨_, rfl, .opLogic _ _⟩
  | .rti => ⟨_, rfl, (Keeps.refl s).returnFromInterrupt⟩
  | .eorDpxind _ => ⟨_, rfl, .opLogic _ _⟩
  | .wdmSig _ => ⟨_, rfl, Keeps.refl s⟩
  | .eorSr _ => ⟨_, rfl, .opLogic _ _⟩
  | .mvpBm _ _ => ⟨_, rfl, .opBlockMove _ _ _⟩
  | .eorDp _ => ⟨_, rfl, .opLogic _ _⟩
  | .lsrDp _ => ⟨_, rfl, .opShiftMem _ _⟩
  | .eorDpindl _ => ⟨_, rfl, .opLogic _ _⟩
  | .pha => ⟨_, rfl, (Keeps.refl s).pushW _ _⟩
  | .eorImm _ => ⟨_, rfl, .opLogic _ _⟩
  | .lsrAcc => ⟨_, rfl, .opShiftA _⟩
  | .phk => ⟨_, rfl, (Keeps.refl s).push8 _⟩
  | .jmpAbs _ => ⟨_, rfl, (Keeps.refl s).setPc _⟩
  | .eorAbs _ => ⟨_, rfl, .opLogic _ _⟩
  | .lsrAbs _ => ⟨_, rfl, .opShiftMem _ _⟩
  | .eorLong _ => ⟨_, rfl, .opLogic _ _⟩
  | .bvcRel _ => ⟨_, rfl, .opBranch _ _⟩
  | .eorDpindy _ => ⟨_, rfl, .opLogic _ _⟩
  | .eorDpind _ => ⟨_, rfl, .opLogic _ _⟩
  | .eorSriy _ => ⟨_, rfl, .opLogic _ _⟩
  | .mvnBm _ _ => ⟨_, rfl, .opBlockMove _ _ _⟩
  | .eorDpx _ => ⟨_, rfl, .opLogic _ _⟩
  | .lsrDpx _ => ⟨_, rfl, .opShiftMem _ _⟩
  | .eorDpindly _ => ⟨_, rfl, .opLogic _ _⟩
  | .cli => ⟨_, rfl, (Keeps.refl s).setP _⟩
  | .eorAbsy _ => ⟨_, rfl, .opLogic _ _⟩
  | .phy => ⟨_, rfl, (Keeps.refl s).pushW _ _⟩
  | .tcd => ⟨_, rfl, ((Keeps.refl s).setD _).setNZ _ _⟩
  | .jmlLong _ => ⟨_, rfl, (Keeps.refl s).jumpLong _⟩
  | .eorAbsx _ => ⟨_, rfl, .opLogic _ _⟩
  | .lsrAbsx _ => ⟨_, rfl, .opShiftMem _ _⟩
  | .eorLongx _ => ⟨_, rfl, .opLogic _ _⟩
  | .rts => ⟨_, rfl, .opRts (.refl s)⟩
  | .adcDpxind _ => ⟨_, rfl, .opAdc _⟩
  | .perRell _ => ⟨_, rfl, (Keeps.refl s).push16 _⟩
  | .adcSr _ => ⟨_, rfl, .opAdc _⟩
  | .stzDp _ => ⟨_, rfl, .opStore _ _ _⟩
  | .adcDp _ => ⟨_, rfl, .opAdc _⟩
  | .rorDp _ => ⟨_, rfl, .opShiftMem _ _⟩
  | .adcDpindl _ => ⟨_, rfl, .opAdc _⟩
  | .pla => ⟨_, rfl, .opPla⟩
  | .adcImm _ => ⟨_, rfl, .opAdc _⟩
  | .rorAcc => ⟨_, rfl, .opShiftA _⟩
  | .rtl => ⟨_, rfl, .opRtl (.refl s)⟩
  | .jmpAbsind _ => ⟨_, rfl, .opJmpInd _⟩
  | .adcAbs _ => ⟨_, rfl, .opAdc _⟩
  | .rorAbs _ => ⟨_, rfl, .opShiftMem _ _⟩
  | .adcLong _ => ⟨_, rfl, .opAdc _⟩
  | .bvsRel _ => ⟨_, rfl, .opBranch _ _⟩
  | .adcDpindy _ => ⟨_, rfl, .opAdc _⟩
  | .adcDpind _ => ⟨_, rfl, .opAdc _⟩
  | .adcSriy _ => ⟨_, rfl, .opAdc _⟩
  | .stzDpx _ => ⟨_, rfl, .opStore _ _ _⟩
  | .adcDpx _ => ⟨_, rfl, .opAdc _⟩
  | .rorDpx _ => ⟨_, rfl, .opShiftMem _ _⟩
  | .adcDpindly _ => ⟨_, rfl, .opAdc _⟩
  | .sei => ⟨_, rfl, (Keeps.refl s).setP _⟩
  | .adcAbsy _ => ⟨_, rfl, .opAdc _⟩
  | .ply => ⟨_, rfl, .opPly⟩
  | .tdc => ⟨_, rfl, ((Keeps.refl s).setA _ _).setNZ _ _⟩
  | .jmpAbsxind _ => ⟨_, rfl, (Keeps.refl s).jumpIndexed _⟩
  | .adcAbsx _ => ⟨_, rfl, .opAdc _⟩
  | .rorAbsx _ => ⟨_, rfl, .opShiftMem _ _⟩
  | .adcLongx _ => ⟨_, rfl, .opAdc _⟩
  | .braRel _ => ⟨_, rfl, .opBranch _ _⟩
  | .staDpxind _ => ⟨_, rfl, .opStore _ _ _⟩
  | .brlRell _ => ⟨_, rfl, (Keeps.refl s).setPc _⟩
  | .staSr _ => ⟨_, rfl, .opStore _ _ _⟩
  | .styDp _ => ⟨_, rfl, .opStore _ _ _⟩
  | .staDp _ => ⟨_, rfl, .opStore _ _ _⟩
  | .stxDp _ => ⟨_, rfl, .opStore _ _ _⟩
  | .staDpindl _ => ⟨_, rfl, .opStore _ _ _⟩
  | .dey => ⟨_, rfl, .opBumpY _⟩
  | .bitImm _ => ⟨_, rfl, .opBitImm _⟩
  | .txa => ⟨_, rfl, .transferToA _⟩
  | .phb => ⟨_, rfl, (Keeps.refl s).push8 _⟩
  | .styAbs _ => ⟨_, rfl, .opStore _ _ _⟩
  | .staAbs _ => ⟨_, rfl, .opStore _ _ _⟩
  | .stxAbs _ => ⟨_, rfl, .opStore _ _ _⟩
  | .staLong _ => ⟨_, rfl, .opStore _ _ _⟩
  | .bccRel _ => ⟨_, rfl, .opBranch _ _⟩
  | .staDpindy _ => ⟨_, rfl, .opStore _ _ _⟩
  | .staDpind _ => ⟨_, rfl, .opStore _ _ _⟩
  | .staSriy _ => ⟨_, rfl, .opStore _ _ _⟩
  | .styDpx _ => ⟨_, rfl, .opStore _ _ _⟩
  | .staDpx _ => ⟨_, rfl, .opStore _ _ _⟩
  | .stxDpy _ => ⟨_, rfl, .opStore _ _ _⟩
  | .staDpindly _ => ⟨_, rfl, .opStore _ _ _⟩
  | .tya => ⟨_, rfl, .transferToA _⟩
  | .staAbsy _ => ⟨_, rfl, .opStore _ _ _⟩
  | .txs => ⟨_, rfl, (Keeps.refl s).setS _⟩
  | .txy => ⟨_, rfl, .transferToY _⟩
  | .stzAbs _ => ⟨_, rfl, .opStore _ _ _⟩
  | .staAbsx _ => ⟨_, rfl, .opStore _ _ _⟩
  | .stzAbsx _ => ⟨_, rfl, .opStore _ _ _⟩
  | .staLongx _ => ⟨_, rfl, .opStore _ _ _⟩
  | .ldyImm _ => ⟨_, rfl, .opLdy _⟩
  | .ldaDpxind _ => ⟨_, rfl, .opLda _⟩
  | .ldxImm _ => ⟨_, rfl, .opLdx _⟩
  | .ldaSr _ => ⟨_, rfl, .opLda _⟩
  | .ldyDp _ => ⟨_, rfl, .opLdy _⟩
  | .ldaDp _ => ⟨_, rfl, .opLda _⟩
  | .ldxDp _ => ⟨_, rfl, .opLdx _⟩
  | .ldaDpindl _ => ⟨_, rfl, .opLda _⟩
  | .tay => ⟨_, rfl, .transferToY _⟩
  | .ldaImm _ => ⟨_, rfl, .opLda _⟩
  | .tax => ⟨_, rfl, .transferToX _⟩
  | .plb => ⟨_, rfl, .opPlb⟩
  | .ldyAbs _ => ⟨_, rfl, .opLdy _⟩
  | .ldaAbs _ => ⟨_, rfl, .opLda _⟩
  | .ldxAbs _ => ⟨_, rfl, .opLdx _⟩
  | .ldaLong _ => ⟨_, rfl, .opLda _⟩
  | .bcsRel _ => ⟨_, rfl, .opBranch _ _⟩
  | .ldaDpindy _ => ⟨_, rfl, .opLda _⟩
  | .ldaDpind _ => ⟨_, rfl, .opLda _⟩
  | .ldaSriy _ => ⟨_, rfl, .opLda _⟩
  | .ldyDpx _ => ⟨_, rfl, .opLdy _⟩
  | .ldaDpx _ => ⟨_, rfl, .opLda _⟩
  | .ldxDpy _ => ⟨_, rfl, .opLdx _⟩
  | .ldaDpindly _ => ⟨_, rfl, .opLda _⟩
  | .clv => ⟨_, rfl, (Keeps.refl s).setP _⟩
  | .ldaAbsy _ => ⟨_, rfl, .opLda _⟩
  | .tsx => ⟨_, rfl, .transferToX _⟩
  | .tyx => ⟨_, rfl, .transferToX _⟩
  | .ldyAbsx _ => ⟨_, rfl, .opLdy _⟩
  | .ldaAbsx _ => ⟨_, rfl, .opLda _⟩
  | .ldxAbsy _ => ⟨_, rfl, .opLdx _⟩
  | .ldaLongx _ => ⟨_, rfl, .opLda _⟩
  | .cpyImm _ => ⟨_, rfl, .opCompare _ _ _⟩
  | .cmpDpxind _ => ⟨_, rfl, .opCompare _ _ _⟩
  | .repImm _ => ⟨_, rfl, .opRep _⟩
  | .cmpSr _ => ⟨_, rfl, .opCompare _ _ _⟩
  | .cpyDp _ => ⟨_, rfl, .opCompare _ _ _⟩
  | .cmpDp _ => ⟨_, rfl, .opCompare _ _ _⟩
  | .decDp _ => ⟨_, rfl, .opBumpMem _ _⟩
  | .cmpDpindl _ => ⟨_, rfl, .opCompare _ _ _⟩
  | .iny => ⟨_, rfl, .opBumpY _⟩
  | .cmpImm _ => ⟨_, rfl, .opCompare _ _ _⟩
  | .dex => ⟨_, rfl, .opBumpX _⟩
  | .wai => ⟨_, rfl, (Keeps.refl s).cpu rfl rfl rfl⟩
  | .cpyAbs _ => ⟨_, rfl, .opCompare _ _ _⟩
  | .cmpAbs _ => ⟨_, rfl, .opCompare _ _ _⟩
  | .decAbs _ => ⟨_, rfl, .opBumpMem _ _⟩
  | .cmpLong _ => ⟨_, rfl, .opCompare _ _ _⟩
  | .bneRel _ => ⟨_, rfl, .opBranch _ _⟩
  | .cmpDpindy _ => ⟨_, rfl, .opCompare _ _ _⟩
  | .cmpDpind _ => ⟨_, rfl, .opCompare _ _ _⟩
  | .cmpSriy _ => ⟨_, rfl, .opCompare _ _ _⟩
  | .peiDpind _ => ⟨_, rfl, .opPei _⟩
  | .cmpDpx _ => ⟨_, rfl, .opCompare _ _ _⟩
  | .decDpx _ => ⟨_, rfl, .opBumpMem _ _⟩
  | .cmpDpindly _ => ⟨_, rfl, .opCompare _ _ _⟩
  | .cld => ⟨_, rfl, (Keeps.refl s).setP _⟩
  | .cmpAbsy _ => ⟨_, rfl, .opCompare _ _ _⟩
  | .phx => ⟨_, rfl, (Keeps.refl s).pushW _ _⟩
  | .stp => ⟨_, rfl, (Keeps.refl s).cpu rfl rfl rfl⟩
  | .jmlAbsindl _ => ⟨_, rfl, .opJmlInd _⟩
  | .cmpAbsx _ => ⟨_, rfl, .opCompare _ _ _⟩
  | .decAbsx _ => ⟨_, rfl, .opBumpMem _ _⟩
  | .cmpLongx _ => ⟨_, rfl, .opCompare _ _ _⟩
  | .cpxImm _ => ⟨_, rfl, .opCompare _ _ _⟩
  | .sbcDpxind _ => ⟨_, rfl, .opSbc _⟩
  | .sepImm _ => ⟨_, rfl, .opSep _⟩
  | .sbcSr _ => ⟨_, rfl, .opSbc _⟩
  | .cpxDp _ => ⟨_, rfl, .opCompare _ _ _⟩
  | .sbcDp _ => ⟨_, rfl, .opSbc _⟩
  | .incDp _ => ⟨_, rfl, .opBumpMem _ _⟩
  | .sbcDpindl _ => ⟨_, rfl, .opSbc _⟩
  | .inx => ⟨_, rfl, .opBumpX _⟩
  | .sbcImm _ => ⟨_, rfl, .opSbc _⟩
  | .nop => ⟨_, rfl, Keeps.refl s⟩
  | .xba => ⟨_, rfl, ((Keeps.refl s).setA _ _).setNZ _ _⟩
  | .cpxAbs _ => ⟨_, rfl, .opCompare _ _ _⟩
  | .sbcAbs _ => ⟨_, rfl, .opSbc _⟩
  | .incAbs _ => ⟨_, rfl, .opBumpMem _ _⟩
  | .sbcLong _ => ⟨_, rfl, .opSbc _⟩
  | .beqRel _ => ⟨_, rfl, .opBranch _ _⟩
  | .sbcDpindy _ => ⟨_, rfl, .opSbc _⟩
  | .sbcDpind _ => ⟨_, rfl, .opSbc _⟩
  | .sbcSriy _ => ⟨_, rfl, .opSbc _⟩
  | .peaImm16 _ => ⟨_, rfl, (Keeps.refl s).push16 _⟩
  | .sbcDpx _ => ⟨_, rfl, .opSbc _⟩
  | .incDpx _ => ⟨_, rfl, .opBumpMem _ _⟩
  | .sbcDpindly _ => ⟨_, rfl, .opSbc _⟩
  | .sed => ⟨_, rfl, (Keeps.refl s).setP _⟩
  | .sbcAbsy _ => ⟨_, rfl, .opSbc _⟩
  | .plx => ⟨_, rfl, .opPlx⟩
  | .xce => ⟨_, rfl, .opXce⟩
  | .jsrAbsxind _ => ⟨_, rfl, (Keeps.refl s).pushReturn.jumpIndexed _⟩
  | .sbcAbsx _ => ⟨_, rfl, .opSbc _⟩
  | .incAbsx _ => ⟨_, rfl, .opBumpMem _ _⟩
  | .sbcLongx _ => ⟨_, rfl, .opSbc _⟩

end Sys2Proof.Machine
end

