-- ==== Sys2Proof/Laws/PerInstr.lean ====
section
/-! SUPPORT. One lemma per constructor of Instr: the encoder writes as many operand bytes as the decoder takes for the instruction's
opcode, at every setting of the width flags (30_encoding.md R202, R204). -/

namespace Sys2Proof.Laws

/-- The bytes the encoder writes are the opcode and the operand bytes the decoder takes. -/
def EncodedLength.Statement (i : Instr) : Prop :=
  ∀ m x : Bool, (encode m x i).length = operandLength m x i.opcode + 1

theorem encodedLength_of_opcode {i : Instr} {op : Byte} (ho : i.opcode = op)
    (h : ∀ m x : Bool, (encode m x i).length = operandLength m x op + 1) : EncodedLength.Statement i :=
  fun m x => (h m x).trans (by rw [ho])

theorem EncodedLength.brkSig (sig : Byte) : EncodedLength.Statement (.brkSig sig) :=
  encodedLength_of_opcode (op := 0x00) rfl fun _ _ => rfl
theorem EncodedLength.oraDpxind (d : Byte) : EncodedLength.Statement (.oraDpxind d) :=
  encodedLength_of_opcode (op := 0x01) rfl fun _ _ => rfl
theorem EncodedLength.copSig (sig : Byte) : EncodedLength.Statement (.copSig sig) :=
  encodedLength_of_opcode (op := 0x02) rfl fun _ _ => rfl
theorem EncodedLength.oraSr (d : Byte) : EncodedLength.Statement (.oraSr d) :=
  encodedLength_of_opcode (op := 0x03) rfl fun _ _ => rfl
theorem EncodedLength.tsbDp (d : Byte) : EncodedLength.Statement (.tsbDp d) :=
  encodedLength_of_opcode (op := 0x04) rfl fun _ _ => rfl
theorem EncodedLength.oraDp (d : Byte) : EncodedLength.Statement (.oraDp d) :=
  encodedLength_of_opcode (op := 0x05) rfl fun _ _ => rfl
theorem EncodedLength.aslDp (d : Byte) : EncodedLength.Statement (.aslDp d) :=
  encodedLength_of_opcode (op := 0x06) rfl fun _ _ => rfl
theorem EncodedLength.oraDpindl (d : Byte) : EncodedLength.Statement (.oraDpindl d) :=
  encodedLength_of_opcode (op := 0x07) rfl fun _ _ => rfl
theorem EncodedLength.php : EncodedLength.Statement .php :=
  encodedLength_of_opcode (op := 0x08) rfl fun _ _ => rfl
theorem EncodedLength.oraImm (c : Word) : EncodedLength.Statement (.oraImm c) :=
  encodedLength_of_opcode (op := 0x09) rfl fun m x => by cases m <;> cases x <;> rfl
theorem EncodedLength.aslAcc : EncodedLength.Statement .aslAcc :=
  encodedLength_of_opcode (op := 0x0A) rfl fun _ _ => rfl
theorem EncodedLength.phd : EncodedLength.Statement .phd :=
  encodedLength_of_opcode (op := 0x0B) rfl fun _ _ => rfl
theorem EncodedLength.tsbAbs (a : Word) : EncodedLength.Statement (.tsbAbs a) :=
  encodedLength_of_opcode (op := 0x0C) rfl fun _ _ => rfl
theorem EncodedLength.oraAbs (a : Word) : EncodedLength.Statement (.oraAbs a) :=
  encodedLength_of_opcode (op := 0x0D) rfl fun _ _ => rfl
theorem EncodedLength.aslAbs (a : Word) : EncodedLength.Statement (.aslAbs a) :=
  encodedLength_of_opcode (op := 0x0E) rfl fun _ _ => rfl
theorem EncodedLength.oraLong (al : Addr) : EncodedLength.Statement (.oraLong al) :=
  encodedLength_of_opcode (op := 0x0F) rfl fun _ _ => rfl
theorem EncodedLength.bplRel (r : Byte) : EncodedLength.Statement (.bplRel r) :=
  encodedLength_of_opcode (op := 0x10) rfl fun _ _ => rfl
theorem EncodedLength.oraDpindy (d : Byte) : EncodedLength.Statement (.oraDpindy d) :=
  encodedLength_of_opcode (op := 0x11) rfl fun _ _ => rfl
theorem EncodedLength.oraDpind (d : Byte) : EncodedLength.Statement (.oraDpind d) :=
  encodedLength_of_opcode (op := 0x12) rfl fun _ _ => rfl
theorem EncodedLength.oraSriy (d : Byte) : EncodedLength.Statement (.oraSriy d) :=
  encodedLength_of_opcode (op := 0x13) rfl fun _ _ => rfl
theorem EncodedLength.trbDp (d : Byte) : EncodedLength.Statement (.trbDp d) :=
  encodedLength_of_opcode (op := 0x14) rfl fun _ _ => rfl
theorem EncodedLength.oraDpx (d : Byte) : EncodedLength.Statement (.oraDpx d) :=
  encodedLength_of_opcode (op := 0x15) rfl fun _ _ => rfl
theorem EncodedLength.aslDpx (d : Byte) : EncodedLength.Statement (.aslDpx d) :=
  encodedLength_of_opcode (op := 0x16) rfl fun _ _ => rfl
theorem EncodedLength.oraDpindly (d : Byte) : EncodedLength.Statement (.oraDpindly d) :=
  encodedLength_of_opcode (op := 0x17) rfl fun _ _ => rfl
theorem EncodedLength.clc : EncodedLength.Statement .clc :=
  encodedLength_of_opcode (op := 0x18) rfl fun _ _ => rfl
theorem EncodedLength.oraAbsy (a : Word) : EncodedLength.Statement (.oraAbsy a) :=
  encodedLength_of_opcode (op := 0x19) rfl fun _ _ => rfl
theorem EncodedLength.incAcc : EncodedLength.Statement .incAcc :=
  encodedLength_of_opcode (op := 0x1A) rfl fun _ _ => rfl
theorem EncodedLength.tcs : EncodedLength.Statement .tcs :=
  encodedLength_of_opcode (op := 0x1B) rfl fun _ _ => rfl
theorem EncodedLength.trbAbs (a : Word) : EncodedLength.Statement (.trbAbs a) :=
  encodedLength_of_opcode (op := 0x1C) rfl fun _ _ => rfl
theorem EncodedLength.oraAbsx (a : Word) : EncodedLength.Statement (.oraAbsx a) :=
  encodedLength_of_opcode (op := 0x1D) rfl fun _ _ => rfl
theorem EncodedLength.aslAbsx (a : Word) : EncodedLength.Statement (.aslAbsx a) :=
  encodedLength_of_opcode (op := 0x1E) rfl fun _ _ => rfl
theorem EncodedLength.oraLongx (al : Addr) : EncodedLength.Statement (.oraLongx al) :=
  encodedLength_of_opcode (op := 0x1F) rfl fun _ _ => rfl
theorem EncodedLength.jsrAbs (a : Word) : EncodedLength.Statement (.jsrAbs a) :=
  encodedLength_of_opcode (op := 0x20) rfl fun _ _ => rfl
theorem EncodedLength.andDpxind (d : Byte) : EncodedLength.Statement (.andDpxind d) :=
  encodedLength_of_opcode (op := 0x21) rfl fun _ _ => rfl
theorem EncodedLength.jslLong (al : Addr) : EncodedLength.Statement (.jslLong al) :=
  encodedLength_of_opcode (op := 0x22) rfl fun _ _ => rfl
theorem EncodedLength.andSr (d : Byte) : EncodedLength.Statement (.andSr d) :=
  encodedLength_of_opcode (op := 0x23) rfl fun _ _ => rfl
theorem EncodedLength.bitDp (d : Byte) : EncodedLength.Statement (.bitDp d) :=
  encodedLength_of_opcode (op := 0x24) rfl fun _ _ => rfl
theorem EncodedLength.andDp (d : Byte) : EncodedLength.Statement (.andDp d) :=
  encodedLength_of_opcode (op := 0x25) rfl fun _ _ => rfl
theorem EncodedLength.rolDp (d : Byte) : EncodedLength.Statement (.rolDp d) :=
  encodedLength_of_opcode (op := 0x26) rfl fun _ _ => rfl
theorem EncodedLength.andDpindl (d : Byte) : EncodedLength.Statement (.andDpindl d) :=
  encodedLength_of_opcode (op := 0x27) rfl fun _ _ => rfl
theorem EncodedLength.plp : EncodedLength.Statement .plp :=
  encodedLength_of_opcode (op := 0x28) rfl fun _ _ => rfl
theorem EncodedLength.andImm (c : Word) : EncodedLength.Statement (.andImm c) :=
  encodedLength_of_opcode (op := 0x29) rfl fun m x => by cases m <;> cases x <;> rfl
theorem EncodedLength.rolAcc : EncodedLength.Statement .rolAcc :=
  encodedLength_of_opcode (op := 0x2A) rfl fun _ _ => rfl
theorem EncodedLength.pld : EncodedLength.Statement .pld :=
  encodedLength_of_opcode (op := 0x2B) rfl fun _ _ => rfl
theorem EncodedLength.bitAbs (a : Word) : EncodedLength.Statement (.bitAbs a) :=
  encodedLength_of_opcode (op := 0x2C) rfl fun _ _ => rfl
theorem EncodedLength.andAbs (a : Word) : EncodedLength.Statement (.andAbs a) :=
  encodedLength_of_opcode (op := 0x2D) rfl fun _ _ => rfl
theorem EncodedLength.rolAbs (a : Word) : EncodedLength.Statement (.rolAbs a) :=
  encodedLength_of_opcode (op := 0x2E) rfl fun _ _ => rfl
theorem EncodedLength.andLong (al : Addr) : EncodedLength.Statement (.andLong al) :=
  encodedLength_of_opcode (op := 0x2F) rfl fun _ _ => rfl
theorem EncodedLength.bmiRel (r : Byte) : EncodedLength.Statement (.bmiRel r) :=
  encodedLength_of_opcode (op := 0x30) rfl fun _ _ => rfl
theorem EncodedLength.andDpindy (d : Byte) : EncodedLength.Statement (.andDpindy d) :=
  encodedLength_of_opcode (op := 0x31) rfl fun _ _ => rfl
theorem EncodedLength.andDpind (d : Byte) : EncodedLength.Statement (.andDpind d) :=
  encodedLength_of_opcode (op := 0x32) rfl fun _ _ => rfl
theorem EncodedLength.andSriy (d : Byte) : EncodedLength.Statement (.andSriy d) :=
  encodedLength_of_opcode (op := 0x33) rfl fun _ _ => rfl
theorem EncodedLength.bitDpx (d : Byte) : EncodedLength.Statement (.bitDpx d) :=
  encodedLength_of_opcode (op := 0x34) rfl fun _ _ => rfl
theorem EncodedLength.andDpx (d : Byte) : EncodedLength.Statement (.andDpx d) :=
  encodedLength_of_opcode (op := 0x35) rfl fun _ _ => rfl
theorem EncodedLength.rolDpx (d : Byte) : EncodedLength.Statement (.rolDpx d) :=
  encodedLength_of_opcode (op := 0x36) rfl fun _ _ => rfl
theorem EncodedLength.andDpindly (d : Byte) : EncodedLength.Statement (.andDpindly d) :=
  encodedLength_of_opcode (op := 0x37) rfl fun _ _ => rfl
theorem EncodedLength.sec : EncodedLength.Statement .sec :=
  encodedLength_of_opcode (op := 0x38) rfl fun _ _ => rfl
theorem EncodedLength.andAbsy (a : Word) : EncodedLength.Statement (.andAbsy a) :=
  encodedLength_of_opcode (op := 0x39) rfl fun _ _ => rfl
theorem EncodedLength.decAcc : EncodedLength.Statement .decAcc :=
  encodedLength_of_opcode (op := 0x3A) rfl fun _ _ => rfl
theorem EncodedLength.tsc : EncodedLength.Statement .tsc :=
  encodedLength_of_opcode (op := 0x3B) rfl fun _ _ => rfl
theorem EncodedLength.bitAbsx (a : Word) : EncodedLength.Statement (.bitAbsx a) :=
  encodedLength_of_opcode (op := 0x3C) rfl fun _ _ => rfl
theorem EncodedLength.andAbsx (a : Word) : EncodedLength.Statement (.andAbsx a) :=
  encodedLength_of_opcode (op := 0x3D) rfl fun _ _ => rfl
theorem EncodedLength.rolAbsx (a : Word) : EncodedLength.Statement (.rolAbsx a) :=
  encodedLength_of_opcode (op := 0x3E) rfl fun _ _ => rfl
theorem EncodedLength.andLongx (al : Addr) : EncodedLength.Statement (.andLongx al) :=
  encodedLength_of_opcode (op := 0x3F) rfl fun _ _ => rfl
theorem EncodedLength.rti : EncodedLength.Statement .rti :=
  encodedLength_of_opcode (op := 0x40) rfl fun _ _ => rfl
theorem EncodedLength.eorDpxind (d : Byte) : EncodedLength.Statement (.eorDpxind d) :=
  encodedLength_of_opcode (op := 0x41) rfl fun _ _ => rfl
theorem EncodedLength.wdmSig (sig : Byte) : EncodedLength.Statement (.wdmSig sig) :=
  encodedLength_of_opcode (op := 0x42) rfl fun _ _ => rfl
theorem EncodedLength.eorSr (d : Byte) : EncodedLength.Statement (.eorSr d) :=
  encodedLength_of_opcode (op := 0x43) rfl fun _ _ => rfl
theorem EncodedLength.mvpBm (dst : Byte) (src : Byte) : EncodedLength.Statement (.mvpBm dst src) :=
  encodedLength_of_opcode (op := 0x44) rfl fun _ _ => rfl
theorem EncodedLength.eorDp (d : Byte) : EncodedLength.Statement (.eorDp d) :=
  encodedLength_of_opcode (op := 0x45) rfl fun _ _ => rfl
theorem EncodedLength.lsrDp (d : Byte) : EncodedLength.Statement (.lsrDp d) :=
  encodedLength_of_opcode (op := 0x46) rfl fun _ _ => rfl
theorem EncodedLength.eorDpindl (d : Byte) : EncodedLength.Statement (.eorDpindl d) :=
  encodedLength_of_opcode (op := 0x47) rfl fun _ _ => rfl
theorem EncodedLength.pha : EncodedLength.Statement .pha :=
  encodedLength_of_opcode (op := 0x48) rfl fun _ _ => rfl
theorem EncodedLength.eorImm (c : Word) : EncodedLength.Statement (.eorImm c) :=
  encodedLength_of_opcode (op := 0x49) rfl fun m x => by cases m <;> cases x <;> rfl
theorem EncodedLength.lsrAcc : EncodedLength.Statement .lsrAcc :=
  encodedLength_of_opcode (op := 0x4A) rfl fun _ _ => rfl
theorem EncodedLength.phk : EncodedLength.Statement .phk :=
  encodedLength_of_opcode (op := 0x4B) rfl fun _ _ => rfl
theorem EncodedLength.jmpAbs (a : Word) : EncodedLength.Statement (.jmpAbs a) :=
  encodedLength_of_opcode (op := 0x4C) rfl fun _ _ => rfl
theorem EncodedLength.eorAbs (a : Word) : EncodedLength.Statement (.eorAbs a) :=
  encodedLength_of_opcode (op := 0x4D) rfl fun _ _ => rfl
theorem EncodedLength.lsrAbs (a : Word) : EncodedLength.Statement (.lsrAbs a) :=
  encodedLength_of_opcode (op := 0x4E) rfl fun _ _ => rfl
theorem EncodedLength.eorLong (al : Addr) : EncodedLength.Statement (.eorLong al) :=
  encodedLength_of_opcode (op := 0x4F) rfl fun _ _ => rfl
theorem EncodedLength.bvcRel (r : Byte) : EncodedLength.Statement (.bvcRel r) :=
  encodedLength_of_opcode (op := 0x50) rfl fun _ _ => rfl
theorem EncodedLength.eorDpindy (d : Byte) : EncodedLength.Statement (.eorDpindy d) :=
  encodedLength_of_opcode (op := 0x51) rfl fun _ _ => rfl
theorem EncodedLength.eorDpind (d : Byte) : EncodedLength.Statement (.eorDpind d) :=
  encodedLength_of_opcode (op := 0x52) rfl fun _ _ => rfl
theorem EncodedLength.eorSriy (d : Byte) : EncodedLength.Statement (.eorSriy d) :=
  encodedLength_of_opcode (op := 0x53) rfl fun _ _ => rfl
theorem EncodedLength.mvnBm (dst : Byte) (src : Byte) : EncodedLength.Statement (.mvnBm dst src) :=
  encodedLength_of_opcode (op := 0x54) rfl fun _ _ => rfl
theorem EncodedLength.eorDpx (d : Byte) : EncodedLength.Statement (.eorDpx d) :=
  encodedLength_of_opcode (op := 0x55) rfl fun _ _ => rfl
theorem EncodedLength.lsrDpx (d : Byte) : EncodedLength.Statement (.lsrDpx d) :=
  encodedLength_of_opcode (op := 0x56) rfl fun _ _ => rfl
theorem EncodedLength.eorDpindly (d : Byte) : EncodedLength.Statement (.eorDpindly d) :=
  encodedLength_of_opcode (op := 0x57) rfl fun _ _ => rfl
theorem EncodedLength.cli : EncodedLength.Statement .cli :=
  encodedLength_of_opcode (op := 0x58) rfl fun _ _ => rfl
theorem EncodedLength.eorAbsy (a : Word) : EncodedLength.Statement (.eorAbsy a) :=
  encodedLength_of_opcode (op := 0x59) rfl fun _ _ => rfl
theorem EncodedLength.phy : EncodedLength.Statement .phy :=
  encodedLength_of_opcode (op := 0x5A) rfl fun _ _ => rfl
theorem EncodedLength.tcd : EncodedLength.Statement .tcd :=
  encodedLength_of_opcode (op := 0x5B) rfl fun _ _ => rfl
theorem EncodedLength.jmlLong (al : Addr) : EncodedLength.Statement (.jmlLong al) :=
  encodedLength_of_opcode (op := 0x5C) rfl fun _ _ => rfl
theorem EncodedLength.eorAbsx (a : Word) : EncodedLength.Statement (.eorAbsx a) :=
  encodedLength_of_opcode (op := 0x5D) rfl fun _ _ => rfl
theorem EncodedLength.lsrAbsx (a : Word) : EncodedLength.Statement (.lsrAbsx a) :=
  encodedLength_of_opcode (op := 0x5E) rfl fun _ _ => rfl
theorem EncodedLength.eorLongx (al : Addr) : EncodedLength.Statement (.eorLongx al) :=
  encodedLength_of_opcode (op := 0x5F) rfl fun _ _ => rfl
theorem EncodedLength.rts : EncodedLength.Statement .rts :=
  encodedLength_of_opcode (op := 0x60) rfl fun _ _ => rfl
theorem EncodedLength.adcDpxind (d : Byte) : EncodedLength.Statement (.adcDpxind d) :=
  encodedLength_of_opcode (op := 0x61) rfl fun _ _ => rfl
theorem EncodedLength.perRell (r : Word) : EncodedLength.Statement (.perRell r) :=
  encodedLength_of_opcode (op := 0x62) rfl fun _ _ => rfl
theorem EncodedLength.adcSr (d : Byte) : EncodedLength.Statement (.adcSr d) :=
  encodedLength_of_opcode (op := 0x63) rfl fun _ _ => rfl
theorem EncodedLength.stzDp (d : Byte) : EncodedLength.Statement (.stzDp d) :=
  encodedLength_of_opcode (op := 0x64) rfl fun _ _ => rfl
theorem EncodedLength.adcDp (d : Byte) : EncodedLength.Statement (.adcDp d) :=
  encodedLength_of_opcode (op := 0x65) rfl fun _ _ => rfl
theorem EncodedLength.rorDp (d : Byte) : EncodedLength.Statement (.rorDp d) :=
  encodedLength_of_opcode (op := 0x66) rfl fun _ _ => rfl
theorem EncodedLength.adcDpindl (d : Byte) : EncodedLength.Statement (.adcDpindl d) :=
  encodedLength_of_opcode (op := 0x67) rfl fun _ _ => rfl
theorem EncodedLength.pla : EncodedLength.Statement .pla :=
  encodedLength_of_opcode (op := 0x68) rfl fun _ _ => rfl
theorem EncodedLength.adcImm (c : Word) : EncodedLength.Statement (.adcImm c) :=
  encodedLength_of_opcode (op := 0x69) rfl fun m x => by cases m <;> cases x <;> rfl
theorem EncodedLength.rorAcc : EncodedLength.Statement .rorAcc :=
  encodedLength_of_opcode (op := 0x6A) rfl fun _ _ => rfl
theorem EncodedLength.rtl : EncodedLength.Statement .rtl :=
  encodedLength_of_opcode (op := 0x6B) rfl fun _ _ => rfl
theorem EncodedLength.jmpAbsind (a : Word) : EncodedLength.Statement (.jmpAbsind a) :=
  encodedLength_of_opcode (op := 0x6C) rfl fun _ _ => rfl
theorem EncodedLength.adcAbs (a : Word) : EncodedLength.Statement (.adcAbs a) :=
  encodedLength_of_opcode (op := 0x6D) rfl fun _ _ => rfl
theorem EncodedLength.rorAbs (a : Word) : EncodedLength.Statement (.rorAbs a) :=
  encodedLength_of_opcode (op := 0x6E) rfl fun _ _ => rfl
theorem EncodedLength.adcLong (al : Addr) : EncodedLength.Statement (.adcLong al) :=
  encodedLength_of_opcode (op := 0x6F) rfl fun _ _ => rfl
theorem EncodedLength.bvsRel (r : Byte) : EncodedLength.Statement (.bvsRel r) :=
  encodedLength_of_opcode (op := 0x70) rfl fun _ _ => rfl
theorem EncodedLength.adcDpindy (d : Byte) : EncodedLength.Statement (.adcDpindy d) :=
  encodedLength_of_opcode (op := 0x71) rfl fun _ _ => rfl
theorem EncodedLength.adcDpind (d : Byte) : EncodedLength.Statement (.adcDpind d) :=
  encodedLength_of_opcode (op := 0x72) rfl fun _ _ => rfl
theorem EncodedLength.adcSriy (d : Byte) : EncodedLength.Statement (.adcSriy d) :=
  encodedLength_of_opcode (op := 0x73) rfl fun _ _ => rfl
theorem EncodedLength.stzDpx (d : Byte) : EncodedLength.Statement (.stzDpx d) :=
  encodedLength_of_opcode (op := 0x74) rfl fun _ _ => rfl
theorem EncodedLength.adcDpx (d : Byte) : EncodedLength.Statement (.adcDpx d) :=
  encodedLength_of_opcode (op := 0x75) rfl fun _ _ => rfl
theorem EncodedLength.rorDpx (d : Byte) : EncodedLength.Statement (.rorDpx d) :=
  encodedLength_of_opcode (op := 0x76) rfl fun _ _ => rfl
theorem EncodedLength.adcDpindly (d : Byte) : EncodedLength.Statement (.adcDpindly d) :=
  encodedLength_of_opcode (op := 0x77) rfl fun _ _ => rfl
theorem EncodedLength.sei : EncodedLength.Statement .sei :=
  encodedLength_of_opcode (op := 0x78) rfl fun _ _ => rfl
theorem EncodedLength.adcAbsy (a : Word) : EncodedLength.Statement (.adcAbsy a) :=
  encodedLength_of_opcode (op := 0x79) rfl fun _ _ => rfl
theorem EncodedLength.ply : EncodedLength.Statement .ply :=
  encodedLength_of_opcode (op := 0x7A) rfl fun _ _ => rfl
theorem EncodedLength.tdc : EncodedLength.Statement .tdc :=
  encodedLength_of_opcode (op := 0x7B) rfl fun _ _ => rfl
theorem EncodedLength.jmpAbsxind (a : Word) : EncodedLength.Statement (.jmpAbsxind a) :=
  encodedLength_of_opcode (op := 0x7C) rfl fun _ _ => rfl
theorem EncodedLength.adcAbsx (a : Word) : EncodedLength.Statement (.adcAbsx a) :=
  encodedLength_of_opcode (op := 0x7D) rfl fun _ _ => rfl
theorem EncodedLength.rorAbsx (a : Word) : EncodedLength.Statement (.rorAbsx a) :=
  encodedLength_of_opcode (op := 0x7E) rfl fun _ _ => rfl
theorem EncodedLength.adcLongx (al : Addr) : EncodedLength.Statement (.adcLongx al) :=
  encodedLength_of_opcode (op := 0x7F) rfl fun _ _ => rfl
theorem EncodedLength.braRel (r : Byte) : EncodedLength.Statement (.braRel r) :=
  encodedLength_of_opcode (op := 0x80) rfl fun _ _ => rfl
theorem EncodedLength.staDpxind (d : Byte) : EncodedLength.Statement (.staDpxind d) :=
  encodedLength_of_opcode (op := 0x81) rfl fun _ _ => rfl
theorem EncodedLength.brlRell (r : Word) : EncodedLength.Statement (.brlRell r) :=
  encodedLength_of_opcode (op := 0x82) rfl fun _ _ => rfl
theorem EncodedLength.staSr (d : Byte) : EncodedLength.Statement (.staSr d) :=
  encodedLength_of_opcode (op := 0x83) rfl fun _ _ => rfl
theorem EncodedLength.styDp (d : Byte) : EncodedLength.Statement (.styDp d) :=
  encodedLength_of_opcode (op := 0x84) rfl fun _ _ => rfl
theorem EncodedLength.staDp (d : Byte) : EncodedLength.Statement (.staDp d) :=
  encodedLength_of_opcode (op := 0x85) rfl fun _ _ => rfl
theorem EncodedLength.stxDp (d : Byte) : EncodedLength.Statement (.stxDp d) :=
  encodedLength_of_opcode (op := 0x86) rfl fun _ _ => rfl
theorem EncodedLength.staDpindl (d : Byte) : EncodedLength.Statement (.staDpindl d) :=
  encodedLength_of_opcode (op := 0x87) rfl fun _ _ => rfl
theorem EncodedLength.dey : EncodedLength.Statement .dey :=
  encodedLength_of_opcode (op := 0x88) rfl fun _ _ => rfl
theorem EncodedLength.bitImm (c : Word) : EncodedLength.Statement (.bitImm c) :=
  encodedLength_of_opcode (op := 0x89) rfl fun m x => by cases m <;> cases x <;> rfl
theorem EncodedLength.txa : EncodedLength.Statement .txa :=
  encodedLength_of_opcode (op := 0x8A) rfl fun _ _ => rfl
theorem EncodedLength.phb : EncodedLength.Statement .phb :=
  encodedLength_of_opcode (op := 0x8B) rfl fun _ _ => rfl
theorem EncodedLength.styAbs (a : Word) : EncodedLength.Statement (.styAbs a) :=
  encodedLength_of_opcode (op := 0x8C) rfl fun _ _ => rfl
theorem EncodedLength.staAbs (a : Word) : EncodedLength.Statement (.staAbs a) :=
  encodedLength_of_opcode (op := 0x8D) rfl fun _ _ => rfl
theorem EncodedLength.stxAbs (a : Word) : EncodedLength.Statement (.stxAbs a) :=
  encodedLength_of_opcode (op := 0x8E) rfl fun _ _ => rfl
theorem EncodedLength.staLong (al : Addr) : EncodedLength.Statement (.staLong al) :=
  encodedLength_of_opcode (op := 0x8F) rfl fun _ _ => rfl
theorem EncodedLength.bccRel (r : Byte) : EncodedLength.Statement (.bccRel r) :=
  encodedLength_of_opcode (op := 0x90) rfl fun _ _ => rfl
theorem EncodedLength.staDpindy (d : Byte) : EncodedLength.Statement (.staDpindy d) :=
  encodedLength_of_opcode (op := 0x91) rfl fun _ _ => rfl
theorem EncodedLength.staDpind (d : Byte) : EncodedLength.Statement (.staDpind d) :=
  encodedLength_of_opcode (op := 0x92) rfl fun _ _ => rfl
theorem EncodedLength.staSriy (d : Byte) : EncodedLength.Statement (.staSriy d) :=
  encodedLength_of_opcode (op := 0x93) rfl fun _ _ => rfl
theorem EncodedLength.styDpx (d : Byte) : EncodedLength.Statement (.styDpx d) :=
  encodedLength_of_opcode (op := 0x94) rfl fun _ _ => rfl
theorem EncodedLength.staDpx (d : Byte) : EncodedLength.Statement (.staDpx d) :=
  encodedLength_of_opcode (op := 0x95) rfl fun _ _ => rfl
theorem EncodedLength.stxDpy (d : Byte) : EncodedLength.Statement (.stxDpy d) :=
  encodedLength_of_opcode (op := 0x96) rfl fun _ _ => rfl
theorem EncodedLength.staDpindly (d : Byte) : EncodedLength.Statement (.staDpindly d) :=
  encodedLength_of_opcode (op := 0x97) rfl fun _ _ => rfl
theorem EncodedLength.tya : EncodedLength.Statement .tya :=
  encodedLength_of_opcode (op := 0x98) rfl fun _ _ => rfl
theorem EncodedLength.staAbsy (a : Word) : EncodedLength.Statement (.staAbsy a) :=
  encodedLength_of_opcode (op := 0x99) rfl fun _ _ => rfl
theorem EncodedLength.txs : EncodedLength.Statement .txs :=
  encodedLength_of_opcode (op := 0x9A) rfl fun _ _ => rfl
theorem EncodedLength.txy : EncodedLength.Statement .txy :=
  encodedLength_of_opcode (op := 0x9B) rfl fun _ _ => rfl
theorem EncodedLength.stzAbs (a : Word) : EncodedLength.Statement (.stzAbs a) :=
  encodedLength_of_opcode (op := 0x9C) rfl fun _ _ => rfl
theorem EncodedLength.staAbsx (a : Word) : EncodedLength.Statement (.staAbsx a) :=
  encodedLength_of_opcode (op := 0x9D) rfl fun _ _ => rfl
theorem EncodedLength.stzAbsx (a : Word) : EncodedLength.Statement (.stzAbsx a) :=
  encodedLength_of_opcode (op := 0x9E) rfl fun _ _ => rfl
theorem EncodedLength.staLongx (al : Addr) : EncodedLength.Statement (.staLongx al) :=
  encodedLength_of_opcode (op := 0x9F) rfl fun _ _ => rfl
theorem EncodedLength.ldyImm (c : Word) : EncodedLength.Statement (.ldyImm c) :=
  encodedLength_of_opcode (op := 0xA0) rfl fun m x => by cases m <;> cases x <;> rfl
theorem EncodedLength.ldaDpxind (d : Byte) : EncodedLength.Statement (.ldaDpxind d) :=
  encodedLength_of_opcode (op := 0xA1) rfl fun _ _ => rfl
theorem EncodedLength.ldxImm (c : Word) : EncodedLength.Statement (.ldxImm c) :=
  encodedLength_of_opcode (op := 0xA2) rfl fun m x => by cases m <;> cases x <;> rfl
theorem EncodedLength.ldaSr (d : Byte) : EncodedLength.Statement (.ldaSr d) :=
  encodedLength_of_opcode (op := 0xA3) rfl fun _ _ => rfl
theorem EncodedLength.ldyDp (d : Byte) : EncodedLength.Statement (.ldyDp d) :=
  encodedLength_of_opcode (op := 0xA4) rfl fun _ _ => rfl
theorem EncodedLength.ldaDp (d : Byte) : EncodedLength.Statement (.ldaDp d) :=
  encodedLength_of_opcode (op := 0xA5) rfl fun _ _ => rfl
theorem EncodedLength.ldxDp (d : Byte) : EncodedLength.Statement (.ldxDp d) :=
  encodedLength_of_opcode (op := 0xA6) rfl fun _ _ => rfl
theorem EncodedLength.ldaDpindl (d : Byte) : EncodedLength.Statement (.ldaDpindl d) :=
  encodedLength_of_opcode (op := 0xA7) rfl fun _ _ => rfl
theorem EncodedLength.tay : EncodedLength.Statement .tay :=
  encodedLength_of_opcode (op := 0xA8) rfl fun _ _ => rfl
theorem EncodedLength.ldaImm (c : Word) : EncodedLength.Statement (.ldaImm c) :=
  encodedLength_of_opcode (op := 0xA9) rfl fun m x => by cases m <;> cases x <;> rfl
theorem EncodedLength.tax : EncodedLength.Statement .tax :=
  encodedLength_of_opcode (op := 0xAA) rfl fun _ _ => rfl
theorem EncodedLength.plb : EncodedLength.Statement .plb :=
  encodedLength_of_opcode (op := 0xAB) rfl fun _ _ => rfl
theorem EncodedLength.ldyAbs (a : Word) : EncodedLength.Statement (.ldyAbs a) :=
  encodedLength_of_opcode (op := 0xAC) rfl fun _ _ => rfl
theorem EncodedLength.ldaAbs (a : Word) : EncodedLength.Statement (.ldaAbs a) :=
  encodedLength_of_opcode (op := 0xAD) rfl fun _ _ => rfl
theorem EncodedLength.ldxAbs (a : Word) : EncodedLength.Statement (.ldxAbs a) :=
  encodedLength_of_opcode (op := 0xAE) rfl fun _ _ => rfl
theorem EncodedLength.ldaLong (al : Addr) : EncodedLength.Statement (.ldaLong al) :=
  encodedLength_of_opcode (op := 0xAF) rfl fun _ _ => rfl
theorem EncodedLength.bcsRel (r : Byte) : EncodedLength.Statement (.bcsRel r) :=
  encodedLength_of_opcode (op := 0xB0) rfl fun _ _ => rfl
theorem EncodedLength.ldaDpindy (d : Byte) : EncodedLength.Statement (.ldaDpindy d) :=
  encodedLength_of_opcode (op := 0xB1) rfl fun _ _ => rfl
theorem EncodedLength.ldaDpind (d : Byte) : EncodedLength.Statement (.ldaDpind d) :=
  encodedLength_of_opcode (op := 0xB2) rfl fun _ _ => rfl
theorem EncodedLength.ldaSriy (d : Byte) : EncodedLength.Statement (.ldaSriy d) :=
  encodedLength_of_opcode (op := 0xB3) rfl fun _ _ => rfl
theorem EncodedLength.ldyDpx (d : Byte) : EncodedLength.Statement (.ldyDpx d) :=
  encodedLength_of_opcode (op := 0xB4) rfl fun _ _ => rfl
theorem EncodedLength.ldaDpx (d : Byte) : EncodedLength.Statement (.ldaDpx d) :=
  encodedLength_of_opcode (op := 0xB5) rfl fun _ _ => rfl
theorem EncodedLength.ldxDpy (d : Byte) : EncodedLength.Statement (.ldxDpy d) :=
  encodedLength_of_opcode (op := 0xB6) rfl fun _ _ => rfl
theorem EncodedLength.ldaDpindly (d : Byte) : EncodedLength.Statement (.ldaDpindly d) :=
  encodedLength_of_opcode (op := 0xB7) rfl fun _ _ => rfl
theorem EncodedLength.clv : EncodedLength.Statement .clv :=
  encodedLength_of_opcode (op := 0xB8) rfl fun _ _ => rfl
theorem EncodedLength.ldaAbsy (a : Word) : EncodedLength.Statement (.ldaAbsy a) :=
  encodedLength_of_opcode (op := 0xB9) rfl fun _ _ => rfl
theorem EncodedLength.tsx : EncodedLength.Statement .tsx :=
  encodedLength_of_opcode (op := 0xBA) rfl fun _ _ => rfl
theorem EncodedLength.tyx : EncodedLength.Statement .tyx :=
  encodedLength_of_opcode (op := 0xBB) rfl fun _ _ => rfl
theorem EncodedLength.ldyAbsx (a : Word) : EncodedLength.Statement (.ldyAbsx a) :=
  encodedLength_of_opcode (op := 0xBC) rfl fun _ _ => rfl
theorem EncodedLength.ldaAbsx (a : Word) : EncodedLength.Statement (.ldaAbsx a) :=
  encodedLength_of_opcode (op := 0xBD) rfl fun _ _ => rfl
theorem EncodedLength.ldxAbsy (a : Word) : EncodedLength.Statement (.ldxAbsy a) :=
  encodedLength_of_opcode (op := 0xBE) rfl fun _ _ => rfl
theorem EncodedLength.ldaLongx (al : Addr) : EncodedLength.Statement (.ldaLongx al) :=
  encodedLength_of_opcode (op := 0xBF) rfl fun _ _ => rfl
theorem EncodedLength.cpyImm (c : Word) : EncodedLength.Statement (.cpyImm c) :=
  encodedLength_of_opcode (op := 0xC0) rfl fun m x => by cases m <;> cases x <;> rfl
theorem EncodedLength.cmpDpxind (d : Byte) : EncodedLength.Statement (.cmpDpxind d) :=
  encodedLength_of_opcode (op := 0xC1) rfl fun _ _ => rfl
theorem EncodedLength.repImm (c : Byte) : EncodedLength.Statement (.repImm c) :=
  encodedLength_of_opcode (op := 0xC2) rfl fun _ _ => rfl
theorem EncodedLength.cmpSr (d : Byte) : EncodedLength.Statement (.cmpSr d) :=
  encodedLength_of_opcode (op := 0xC3) rfl fun _ _ => rfl
theorem EncodedLength.cpyDp (d : Byte) : EncodedLength.Statement (.cpyDp d) :=
  encodedLength_of_opcode (op := 0xC4) rfl fun _ _ => rfl
theorem EncodedLength.cmpDp (d : Byte) : EncodedLength.Statement (.cmpDp d) :=
  encodedLength_of_opcode (op := 0xC5) rfl fun _ _ => rfl
theorem EncodedLength.decDp (d : Byte) : EncodedLength.Statement (.decDp d) :=
  encodedLength_of_opcode (op := 0xC6) rfl fun _ _ => rfl
theorem EncodedLength.cmpDpindl (d : Byte) : EncodedLength.Statement (.cmpDpindl d) :=
  encodedLength_of_opcode (op := 0xC7) rfl fun _ _ => rfl
theorem EncodedLength.iny : EncodedLength.Statement .iny :=
  encodedLength_of_opcode (op := 0xC8) rfl fun _ _ => rfl
theorem EncodedLength.cmpImm (c : Word) : EncodedLength.Statement (.cmpImm c) :=
  encodedLength_of_opcode (op := 0xC9) rfl fun m x => by cases m <;> cases x <;> rfl
theorem EncodedLength.dex : EncodedLength.Statement .dex :=
  encodedLength_of_opcode (op := 0xCA) rfl fun _ _ => rfl
theorem EncodedLength.wai : EncodedLength.Statement .wai :=
  encodedLength_of_opcode (op := 0xCB) rfl fun _ _ => rfl
theorem EncodedLength.cpyAbs (a : Word) : EncodedLength.Statement (.cpyAbs a) :=
  encodedLength_of_opcode (op := 0xCC) rfl fun _ _ => rfl
theorem EncodedLength.cmpAbs (a : Word) : EncodedLength.Statement (.cmpAbs a) :=
  encodedLength_of_opcode (op := 0xCD) rfl fun _ _ => rfl
theorem EncodedLength.decAbs (a : Word) : EncodedLength.Statement (.decAbs a) :=
  encodedLength_of_opcode (op := 0xCE) rfl fun _ _ => rfl
theorem EncodedLength.cmpLong (al : Addr) : EncodedLength.Statement (.cmpLong al) :=
  encodedLength_of_opcode (op := 0xCF) rfl fun _ _ => rfl
theorem EncodedLength.bneRel (r : Byte) : EncodedLength.Statement (.bneRel r) :=
  encodedLength_of_opcode (op := 0xD0) rfl fun _ _ => rfl
theorem EncodedLength.cmpDpindy (d : Byte) : EncodedLength.Statement (.cmpDpindy d) :=
  encodedLength_of_opcode (op := 0xD1) rfl fun _ _ => rfl
theorem EncodedLength.cmpDpind (d : Byte) : EncodedLength.Statement (.cmpDpind d) :=
  encodedLength_of_opcode (op := 0xD2) rfl fun _ _ => rfl
theorem EncodedLength.cmpSriy (d : Byte) : EncodedLength.Statement (.cmpSriy d) :=
  encodedLength_of_opcode (op := 0xD3) rfl fun _ _ => rfl
theorem EncodedLength.peiDpind (d : Byte) : EncodedLength.Statement (.peiDpind d) :=
  encodedLength_of_opcode (op := 0xD4) rfl fun _ _ => rfl
theorem EncodedLength.cmpDpx (d : Byte) : EncodedLength.Statement (.cmpDpx d) :=
  encodedLength_of_opcode (op := 0xD5) rfl fun _ _ => rfl
theorem EncodedLength.decDpx (d : Byte) : EncodedLength.Statement (.decDpx d) :=
  encodedLength_of_opcode (op := 0xD6) rfl fun _ _ => rfl
theorem EncodedLength.cmpDpindly (d : Byte) : EncodedLength.Statement (.cmpDpindly d) :=
  encodedLength_of_opcode (op := 0xD7) rfl fun _ _ => rfl
theorem EncodedLength.cld : EncodedLength.Statement .cld :=
  encodedLength_of_opcode (op := 0xD8) rfl fun _ _ => rfl
theorem EncodedLength.cmpAbsy (a : Word) : EncodedLength.Statement (.cmpAbsy a) :=
  encodedLength_of_opcode (op := 0xD9) rfl fun _ _ => rfl
theorem EncodedLength.phx : EncodedLength.Statement .phx :=
  encodedLength_of_opcode (op := 0xDA) rfl fun _ _ => rfl
theorem EncodedLength.stp : EncodedLength.Statement .stp :=
  encodedLength_of_opcode (op := 0xDB) rfl fun _ _ => rfl
theorem EncodedLength.jmlAbsindl (a : Word) : EncodedLength.Statement (.jmlAbsindl a) :=
  encodedLength_of_opcode (op := 0xDC) rfl fun _ _ => rfl
theorem EncodedLength.cmpAbsx (a : Word) : EncodedLength.Statement (.cmpAbsx a) :=
  encodedLength_of_opcode (op := 0xDD) rfl fun _ _ => rfl
theorem EncodedLength.decAbsx (a : Word) : EncodedLength.Statement (.decAbsx a) :=
  encodedLength_of_opcode (op := 0xDE) rfl fun _ _ => rfl
theorem EncodedLength.cmpLongx (al : Addr) : EncodedLength.Statement (.cmpLongx al) :=
  encodedLength_of_opcode (op := 0xDF) rfl fun _ _ => rfl
theorem EncodedLength.cpxImm (c : Word) : EncodedLength.Statement (.cpxImm c) :=
  encodedLength_of_opcode (op := 0xE0) rfl fun m x => by cases m <;> cases x <;> rfl
theorem EncodedLength.sbcDpxind (d : Byte) : EncodedLength.Statement (.sbcDpxind d) :=
  encodedLength_of_opcode (op := 0xE1) rfl fun _ _ => rfl
theorem EncodedLength.sepImm (c : Byte) : EncodedLength.Statement (.sepImm c) :=
  encodedLength_of_opcode (op := 0xE2) rfl fun _ _ => rfl
theorem EncodedLength.sbcSr (d : Byte) : EncodedLength.Statement (.sbcSr d) :=
  encodedLength_of_opcode (op := 0xE3) rfl fun _ _ => rfl
theorem EncodedLength.cpxDp (d : Byte) : EncodedLength.Statement (.cpxDp d) :=
  encodedLength_of_opcode (op := 0xE4) rfl fun _ _ => rfl
theorem EncodedLength.sbcDp (d : Byte) : EncodedLength.Statement (.sbcDp d) :=
  encodedLength_of_opcode (op := 0xE5) rfl fun _ _ => rfl
theorem EncodedLength.incDp (d : Byte) : EncodedLength.Statement (.incDp d) :=
  encodedLength_of_opcode (op := 0xE6) rfl fun _ _ => rfl
theorem EncodedLength.sbcDpindl (d : Byte) : EncodedLength.Statement (.sbcDpindl d) :=
  encodedLength_of_opcode (op := 0xE7) rfl fun _ _ => rfl
theorem EncodedLength.inx : EncodedLength.Statement .inx :=
  encodedLength_of_opcode (op := 0xE8) rfl fun _ _ => rfl
theorem EncodedLength.sbcImm (c : Word) : EncodedLength.Statement (.sbcImm c) :=
  encodedLength_of_opcode (op := 0xE9) rfl fun m x => by cases m <;> cases x <;> rfl
theorem EncodedLength.nop : EncodedLength.Statement .nop :=
  encodedLength_of_opcode (op := 0xEA) rfl fun _ _ => rfl
theorem EncodedLength.xba : EncodedLength.Statement .xba :=
  encodedLength_of_opcode (op := 0xEB) rfl fun _ _ => rfl
theorem EncodedLength.cpxAbs (a : Word) : EncodedLength.Statement (.cpxAbs a) :=
  encodedLength_of_opcode (op := 0xEC) rfl fun _ _ => rfl
theorem EncodedLength.sbcAbs (a : Word) : EncodedLength.Statement (.sbcAbs a) :=
  encodedLength_of_opcode (op := 0xED) rfl fun _ _ => rfl
theorem EncodedLength.incAbs (a : Word) : EncodedLength.Statement (.incAbs a) :=
  encodedLength_of_opcode (op := 0xEE) rfl fun _ _ => rfl
theorem EncodedLength.sbcLong (al : Addr) : EncodedLength.Statement (.sbcLong al) :=
  encodedLength_of_opcode (op := 0xEF) rfl fun _ _ => rfl
theorem EncodedLength.beqRel (r : Byte) : EncodedLength.Statement (.beqRel r) :=
  encodedLength_of_opcode (op := 0xF0) rfl fun _ _ => rfl
theorem EncodedLength.sbcDpindy (d : Byte) : EncodedLength.Statement (.sbcDpindy d) :=
  encodedLength_of_opcode (op := 0xF1) rfl fun _ _ => rfl
theorem EncodedLength.sbcDpind (d : Byte) : EncodedLength.Statement (.sbcDpind d) :=
  encodedLength_of_opcode (op := 0xF2) rfl fun _ _ => rfl
theorem EncodedLength.sbcSriy (d : Byte) : EncodedLength.Statement (.sbcSriy d) :=
  encodedLength_of_opcode (op := 0xF3) rfl fun _ _ => rfl
theorem EncodedLength.peaImm16 (c : Word) : EncodedLength.Statement (.peaImm16 c) :=
  encodedLength_of_opcode (op := 0xF4) rfl fun _ _ => rfl
theorem EncodedLength.sbcDpx (d : Byte) : EncodedLength.Statement (.sbcDpx d) :=
  encodedLength_of_opcode (op := 0xF5) rfl fun _ _ => rfl
theorem EncodedLength.incDpx (d : Byte) : EncodedLength.Statement (.incDpx d) :=
  encodedLength_of_opcode (op := 0xF6) rfl fun _ _ => rfl
theorem EncodedLength.sbcDpindly (d : Byte) : EncodedLength.Statement (.sbcDpindly d) :=
  encodedLength_of_opcode (op := 0xF7) rfl fun _ _ => rfl
theorem EncodedLength.sed : EncodedLength.Statement .sed :=
  encodedLength_of_opcode (op := 0xF8) rfl fun _ _ => rfl
theorem EncodedLength.sbcAbsy (a : Word) : EncodedLength.Statement (.sbcAbsy a) :=
  encodedLength_of_opcode (op := 0xF9) rfl fun _ _ => rfl
theorem EncodedLength.plx : EncodedLength.Statement .plx :=
  encodedLength_of_opcode (op := 0xFA) rfl fun _ _ => rfl
theorem EncodedLength.xce : EncodedLength.Statement .xce :=
  encodedLength_of_opcode (op := 0xFB) rfl fun _ _ => rfl
theorem EncodedLength.jsrAbsxind (a : Word) : EncodedLength.Statement (.jsrAbsxind a) :=
  encodedLength_of_opcode (op := 0xFC) rfl fun _ _ => rfl
theorem EncodedLength.sbcAbsx (a : Word) : EncodedLength.Statement (.sbcAbsx a) :=
  encodedLength_of_opcode (op := 0xFD) rfl fun _ _ => rfl
theorem EncodedLength.incAbsx (a : Word) : EncodedLength.Statement (.incAbsx a) :=
  encodedLength_of_opcode (op := 0xFE) rfl fun _ _ => rfl
theorem EncodedLength.sbcLongx (al : Addr) : EncodedLength.Statement (.sbcLongx al) :=
  encodedLength_of_opcode (op := 0xFF) rfl fun _ _ => rfl

end Sys2Proof.Laws
end

