-- ==== Sys2Proof/Tests/Slice0.lean ====
section
/-! SUPPORT. The model's own tests. Expected values come from spec/: the opcode map (30_encoding.md R205), the vectors of
95_test_vectors.md (named in the docstrings), and hand calculation from the rule named where that file has no vector. After them, for
every statement with hypotheses, a witness that meets them. -/

namespace Sys2Proof.Tests

set_option Elab.async false

open Sys2Proof.Machine

/-! ### WellFormed refuses what an encoding cannot hold -/

/-- With 8-bit A an immediate above 0xFF is refused, in each of the eight `immM` instructions; with 16-bit A it is accepted. -/
theorem test_wellFormed_immM :
    ([.oraImm 0x100, .andImm 0x100, .eorImm 0x100, .adcImm 0x100, .bitImm 0x100, .ldaImm 0x100, .cmpImm 0x100,
      .sbcImm 0xFFFF] : List Instr).all (fun i => !i.wellFormed true false && i.wellFormed false true) = true := by
  decide +kernel

/-- With 8-bit index registers an immediate above 0xFF is refused, in each of the four `immX` instructions. -/
theorem test_wellFormed_immX :
    ([.ldyImm 0x100, .ldxImm 0x100, .cpyImm 0x100, .cpxImm 0xFFFF] : List Instr).all
      (fun i => !i.wellFormed false true && i.wellFormed true false) = true := by
  decide +kernel

/-! ### Decoding, opcode row by opcode row (30_encoding.md R202, R203, R205) -/

/-- Whether bytes decode to exactly this instruction, with nothing left over. -/
def decodesTo (m x : Bool) (bytes : List Byte) (i : Instr) : Bool :=
  match decode m x bytes with
  | .ok (j, []) => j == i
  | _ => false

theorem test_decode_row_0 :
    ([([0x00, 0x12], .brkSig 0x12), ([0x01, 0x12], .oraDpxind 0x12), ([0x02, 0x12], .copSig 0x12),
      ([0x03, 0x12], .oraSr 0x12), ([0x04, 0x12], .tsbDp 0x12), ([0x05, 0x12], .oraDp 0x12),
      ([0x06, 0x12], .aslDp 0x12), ([0x07, 0x12], .oraDpindl 0x12), ([0x08], .php), ([0x09, 0x80], .oraImm 0x80),
      ([0x0A], .aslAcc), ([0x0B], .phd), ([0x0C, 0x34, 0x12], .tsbAbs 0x1234), ([0x0D, 0x34, 0x12], .oraAbs 0x1234),
      ([0x0E, 0x34, 0x12], .aslAbs 0x1234), ([0x0F, 0x56, 0x34, 0x12], .oraLong 0x123456)] :
      List (List Byte × Instr)).all (fun p => decodesTo true true p.1 p.2) = true := by
  decide +kernel

theorem test_decode_row_1 :
    ([([0x10, 0x12], .bplRel 0x12), ([0x11, 0x12], .oraDpindy 0x12), ([0x12, 0x12], .oraDpind 0x12),
      ([0x13, 0x12], .oraSriy 0x12), ([0x14, 0x12], .trbDp 0x12), ([0x15, 0x12], .oraDpx 0x12),
      ([0x16, 0x12], .aslDpx 0x12), ([0x17, 0x12], .oraDpindly 0x12), ([0x18], .clc),
      ([0x19, 0x34, 0x12], .oraAbsy 0x1234), ([0x1A], .incAcc), ([0x1B], .tcs), ([0x1C, 0x34, 0x12], .trbAbs 0x1234),
      ([0x1D, 0x34, 0x12], .oraAbsx 0x1234), ([0x1E, 0x34, 0x12], .aslAbsx 0x1234),
      ([0x1F, 0x56, 0x34, 0x12], .oraLongx 0x123456)] :
      List (List Byte × Instr)).all (fun p => decodesTo true true p.1 p.2) = true := by
  decide +kernel

theorem test_decode_row_2 :
    ([([0x20, 0x34, 0x12], .jsrAbs 0x1234), ([0x21, 0x12], .andDpxind 0x12),
      ([0x22, 0x56, 0x34, 0x12], .jslLong 0x123456), ([0x23, 0x12], .andSr 0x12), ([0x24, 0x12], .bitDp 0x12),
      ([0x25, 0x12], .andDp 0x12), ([0x26, 0x12], .rolDp 0x12), ([0x27, 0x12], .andDpindl 0x12), ([0x28], .plp),
      ([0x29, 0x80], .andImm 0x80), ([0x2A], .rolAcc), ([0x2B], .pld), ([0x2C, 0x34, 0x12], .bitAbs 0x1234),
      ([0x2D, 0x34, 0x12], .andAbs 0x1234), ([0x2E, 0x34, 0x12], .rolAbs 0x1234),
      ([0x2F, 0x56, 0x34, 0x12], .andLong 0x123456)] :
      List (List Byte × Instr)).all (fun p => decodesTo true true p.1 p.2) = true := by
  decide +kernel

theorem test_decode_row_3 :
    ([([0x30, 0x12], .bmiRel 0x12), ([0x31, 0x12], .andDpindy 0x12), ([0x32, 0x12], .andDpind 0x12),
      ([0x33, 0x12], .andSriy 0x12), ([0x34, 0x12], .bitDpx 0x12), ([0x35, 0x12], .andDpx 0x12),
      ([0x36, 0x12], .rolDpx 0x12), ([0x37, 0x12], .andDpindly 0x12), ([0x38], .sec),
      ([0x39, 0x34, 0x12], .andAbsy 0x1234), ([0x3A], .decAcc), ([0x3B], .tsc), ([0x3C, 0x34, 0x12], .bitAbsx 0x1234),
      ([0x3D, 0x34, 0x12], .andAbsx 0x1234), ([0x3E, 0x34, 0x12], .rolAbsx 0x1234),
      ([0x3F, 0x56, 0x34, 0x12], .andLongx 0x123456)] :
      List (List Byte × Instr)).all (fun p => decodesTo true true p.1 p.2) = true := by
  decide +kernel

theorem test_decode_row_4 :
    ([([0x40], .rti), ([0x41, 0x12], .eorDpxind 0x12), ([0x42, 0x12], .wdmSig 0x12), ([0x43, 0x12], .eorSr 0x12),
      ([0x44, 0x7E, 0x7F], .mvpBm 0x7E 0x7F), ([0x45, 0x12], .eorDp 0x12), ([0x46, 0x12], .lsrDp 0x12),
      ([0x47, 0x12], .eorDpindl 0x12), ([0x48], .pha), ([0x49, 0x80], .eorImm 0x80), ([0x4A], .lsrAcc), ([0x4B], .phk),
      ([0x4C, 0x34, 0x12], .jmpAbs 0x1234), ([0x4D, 0x34, 0x12], .eorAbs 0x1234), ([0x4E, 0x34, 0x12], .lsrAbs 0x1234),
      ([0x4F, 0x56, 0x34, 0x12], .eorLong 0x123456)] :
      List (List Byte × Instr)).all (fun p => decodesTo true true p.1 p.2) = true := by
  decide +kernel

theorem test_decode_row_5 :
    ([([0x50, 0x12], .bvcRel 0x12), ([0x51, 0x12], .eorDpindy 0x12), ([0x52, 0x12], .eorDpind 0x12),
      ([0x53, 0x12], .eorSriy 0x12), ([0x54, 0x7E, 0x7F], .mvnBm 0x7E 0x7F), ([0x55, 0x12], .eorDpx 0x12),
      ([0x56, 0x12], .lsrDpx 0x12), ([0x57, 0x12], .eorDpindly 0x12), ([0x58], .cli),
      ([0x59, 0x34, 0x12], .eorAbsy 0x1234), ([0x5A], .phy), ([0x5B], .tcd),
      ([0x5C, 0x56, 0x34, 0x12], .jmlLong 0x123456), ([0x5D, 0x34, 0x12], .eorAbsx 0x1234),
      ([0x5E, 0x34, 0x12], .lsrAbsx 0x1234), ([0x5F, 0x56, 0x34, 0x12], .eorLongx 0x123456)] :
      List (List Byte × Instr)).all (fun p => decodesTo true true p.1 p.2) = true := by
  decide +kernel

theorem test_decode_row_6 :
    ([([0x60], .rts), ([0x61, 0x12], .adcDpxind 0x12), ([0x62, 0x34, 0x12], .perRell 0x1234),
      ([0x63, 0x12], .adcSr 0x12), ([0x64, 0x12], .stzDp 0x12), ([0x65, 0x12], .adcDp 0x12),
      ([0x66, 0x12], .rorDp 0x12), ([0x67, 0x12], .adcDpindl 0x12), ([0x68], .pla), ([0x69, 0x80], .adcImm 0x80),
      ([0x6A], .rorAcc), ([0x6B], .rtl), ([0x6C, 0x34, 0x12], .jmpAbsind 0x1234), ([0x6D, 0x34, 0x12], .adcAbs 0x1234),
      ([0x6E, 0x34, 0x12], .rorAbs 0x1234), ([0x6F, 0x56, 0x34, 0x12], .adcLong 0x123456)] :
      List (List Byte × Instr)).all (fun p => decodesTo true true p.1 p.2) = true := by
  decide +kernel

theorem test_decode_row_7 :
    ([([0x70, 0x12], .bvsRel 0x12), ([0x71, 0x12], .adcDpindy 0x12), ([0x72, 0x12], .adcDpind 0x12),
      ([0x73, 0x12], .adcSriy 0x12), ([0x74, 0x12], .stzDpx 0x12), ([0x75, 0x12], .adcDpx 0x12),
      ([0x76, 0x12], .rorDpx 0x12), ([0x77, 0x12], .adcDpindly 0x12), ([0x78], .sei),
      ([0x79, 0x34, 0x12], .adcAbsy 0x1234), ([0x7A], .ply), ([0x7B], .tdc), ([0x7C, 0x34, 0x12], .jmpAbsxind 0x1234),
      ([0x7D, 0x34, 0x12], .adcAbsx 0x1234), ([0x7E, 0x34, 0x12], .rorAbsx 0x1234),
      ([0x7F, 0x56, 0x34, 0x12], .adcLongx 0x123456)] :
      List (List Byte × Instr)).all (fun p => decodesTo true true p.1 p.2) = true := by
  decide +kernel

theorem test_decode_row_8 :
    ([([0x80, 0x12], .braRel 0x12), ([0x81, 0x12], .staDpxind 0x12), ([0x82, 0x34, 0x12], .brlRell 0x1234),
      ([0x83, 0x12], .staSr 0x12), ([0x84, 0x12], .styDp 0x12), ([0x85, 0x12], .staDp 0x12),
      ([0x86, 0x12], .stxDp 0x12), ([0x87, 0x12], .staDpindl 0x12), ([0x88], .dey), ([0x89, 0x80], .bitImm 0x80),
      ([0x8A], .txa), ([0x8B], .phb), ([0x8C, 0x34, 0x12], .styAbs 0x1234), ([0x8D, 0x34, 0x12], .staAbs 0x1234),
      ([0x8E, 0x34, 0x12], .stxAbs 0x1234), ([0x8F, 0x56, 0x34, 0x12], .staLong 0x123456)] :
      List (List Byte × Instr)).all (fun p => decodesTo true true p.1 p.2) = true := by
  decide +kernel

theorem test_decode_row_9 :
    ([([0x90, 0x12], .bccRel 0x12), ([0x91, 0x12], .staDpindy 0x12), ([0x92, 0x12], .staDpind 0x12),
      ([0x93, 0x12], .staSriy 0x12), ([0x94, 0x12], .styDpx 0x12), ([0x95, 0x12], .staDpx 0x12),
      ([0x96, 0x12], .stxDpy 0x12), ([0x97, 0x12], .staDpindly 0x12), ([0x98], .tya),
      ([0x99, 0x34, 0x12], .staAbsy 0x1234), ([0x9A], .txs), ([0x9B], .txy), ([0x9C, 0x34, 0x12], .stzAbs 0x1234),
      ([0x9D, 0x34, 0x12], .staAbsx 0x1234), ([0x9E, 0x34, 0x12], .stzAbsx 0x1234),
      ([0x9F, 0x56, 0x34, 0x12], .staLongx 0x123456)] :
      List (List Byte × Instr)).all (fun p => decodesTo true true p.1 p.2) = true := by
  decide +kernel

theorem test_decode_row_A :
    ([([0xA0, 0x80], .ldyImm 0x80), ([0xA1, 0x12], .ldaDpxind 0x12), ([0xA2, 0x80], .ldxImm 0x80),
      ([0xA3, 0x12], .ldaSr 0x12), ([0xA4, 0x12], .ldyDp 0x12), ([0xA5, 0x12], .ldaDp 0x12),
      ([0xA6, 0x12], .ldxDp 0x12), ([0xA7, 0x12], .ldaDpindl 0x12), ([0xA8], .tay), ([0xA9, 0x80], .ldaImm 0x80),
      ([0xAA], .tax), ([0xAB], .plb), ([0xAC, 0x34, 0x12], .ldyAbs 0x1234), ([0xAD, 0x34, 0x12], .ldaAbs 0x1234),
      ([0xAE, 0x34, 0x12], .ldxAbs 0x1234), ([0xAF, 0x56, 0x34, 0x12], .ldaLong 0x123456)] :
      List (List Byte × Instr)).all (fun p => decodesTo true true p.1 p.2) = true := by
  decide +kernel

theorem test_decode_row_B :
    ([([0xB0, 0x12], .bcsRel 0x12), ([0xB1, 0x12], .ldaDpindy 0x12), ([0xB2, 0x12], .ldaDpind 0x12),
      ([0xB3, 0x12], .ldaSriy 0x12), ([0xB4, 0x12], .ldyDpx 0x12), ([0xB5, 0x12], .ldaDpx 0x12),
      ([0xB6, 0x12], .ldxDpy 0x12), ([0xB7, 0x12], .ldaDpindly 0x12), ([0xB8], .clv),
      ([0xB9, 0x34, 0x12], .ldaAbsy 0x1234), ([0xBA], .tsx), ([0xBB], .tyx), ([0xBC, 0x34, 0x12], .ldyAbsx 0x1234),
      ([0xBD, 0x34, 0x12], .ldaAbsx 0x1234), ([0xBE, 0x34, 0x12], .ldxAbsy 0x1234),
      ([0xBF, 0x56, 0x34, 0x12], .ldaLongx 0x123456)] :
      List (List Byte × Instr)).all (fun p => decodesTo true true p.1 p.2) = true := by
  decide +kernel

theorem test_decode_row_C :
    ([([0xC0, 0x80], .cpyImm 0x80), ([0xC1, 0x12], .cmpDpxind 0x12), ([0xC2, 0x12], .repImm 0x12),
      ([0xC3, 0x12], .cmpSr 0x12), ([0xC4, 0x12], .cpyDp 0x12), ([0xC5, 0x12], .cmpDp 0x12),
      ([0xC6, 0x12], .decDp 0x12), ([0xC7, 0x12], .cmpDpindl 0x12), ([0xC8], .iny), ([0xC9, 0x80], .cmpImm 0x80),
      ([0xCA], .dex), ([0xCB], .wai), ([0xCC, 0x34, 0x12], .cpyAbs 0x1234), ([0xCD, 0x34, 0x12], .cmpAbs 0x1234),
      ([0xCE, 0x34, 0x12], .decAbs 0x1234), ([0xCF, 0x56, 0x34, 0x12], .cmpLong 0x123456)] :
      List (List Byte × Instr)).all (fun p => decodesTo true true p.1 p.2) = true := by
  decide +kernel

theorem test_decode_row_D :
    ([([0xD0, 0x12], .bneRel 0x12), ([0xD1, 0x12], .cmpDpindy 0x12), ([0xD2, 0x12], .cmpDpind 0x12),
      ([0xD3, 0x12], .cmpSriy 0x12), ([0xD4, 0x12], .peiDpind 0x12), ([0xD5, 0x12], .cmpDpx 0x12),
      ([0xD6, 0x12], .decDpx 0x12), ([0xD7, 0x12], .cmpDpindly 0x12), ([0xD8], .cld),
      ([0xD9, 0x34, 0x12], .cmpAbsy 0x1234), ([0xDA], .phx), ([0xDB], .stp), ([0xDC, 0x34, 0x12], .jmlAbsindl 0x1234),
      ([0xDD, 0x34, 0x12], .cmpAbsx 0x1234), ([0xDE, 0x34, 0x12], .decAbsx 0x1234),
      ([0xDF, 0x56, 0x34, 0x12], .cmpLongx 0x123456)] :
      List (List Byte × Instr)).all (fun p => decodesTo true true p.1 p.2) = true := by
  decide +kernel

theorem test_decode_row_E :
    ([([0xE0, 0x80], .cpxImm 0x80), ([0xE1, 0x12], .sbcDpxind 0x12), ([0xE2, 0x12], .sepImm 0x12),
      ([0xE3, 0x12], .sbcSr 0x12), ([0xE4, 0x12], .cpxDp 0x12), ([0xE5, 0x12], .sbcDp 0x12),
      ([0xE6, 0x12], .incDp 0x12), ([0xE7, 0x12], .sbcDpindl 0x12), ([0xE8], .inx), ([0xE9, 0x80], .sbcImm 0x80),
      ([0xEA], .nop), ([0xEB], .xba), ([0xEC, 0x34, 0x12], .cpxAbs 0x1234), ([0xED, 0x34, 0x12], .sbcAbs 0x1234),
      ([0xEE, 0x34, 0x12], .incAbs 0x1234), ([0xEF, 0x56, 0x34, 0x12], .sbcLong 0x123456)] :
      List (List Byte × Instr)).all (fun p => decodesTo true true p.1 p.2) = true := by
  decide +kernel

theorem test_decode_row_F :
    ([([0xF0, 0x12], .beqRel 0x12), ([0xF1, 0x12], .sbcDpindy 0x12), ([0xF2, 0x12], .sbcDpind 0x12),
      ([0xF3, 0x12], .sbcSriy 0x12), ([0xF4, 0x34, 0x12], .peaImm16 0x1234), ([0xF5, 0x12], .sbcDpx 0x12),
      ([0xF6, 0x12], .incDpx 0x12), ([0xF7, 0x12], .sbcDpindly 0x12), ([0xF8], .sed),
      ([0xF9, 0x34, 0x12], .sbcAbsy 0x1234), ([0xFA], .plx), ([0xFB], .xce), ([0xFC, 0x34, 0x12], .jsrAbsxind 0x1234),
      ([0xFD, 0x34, 0x12], .sbcAbsx 0x1234), ([0xFE, 0x34, 0x12], .incAbsx 0x1234),
      ([0xFF, 0x56, 0x34, 0x12], .sbcLongx 0x123456)] :
      List (List Byte × Instr)).all (fun p => decodesTo true true p.1 p.2) = true := by
  decide +kernel

/-- With the width flags 0 the immediates are two bytes, low byte first (30_encoding.md R204). -/
theorem test_decode_wide_immediates :
    ([([0x09, 0x34, 0x12], .oraImm 0x1234),
      ([0x29, 0x34, 0x12], .andImm 0x1234),
      ([0x49, 0x34, 0x12], .eorImm 0x1234),
      ([0x69, 0x34, 0x12], .adcImm 0x1234),
      ([0x89, 0x34, 0x12], .bitImm 0x1234),
      ([0xA0, 0x34, 0x12], .ldyImm 0x1234),
      ([0xA2, 0x34, 0x12], .ldxImm 0x1234),
      ([0xA9, 0x34, 0x12], .ldaImm 0x1234),
      ([0xC0, 0x34, 0x12], .cpyImm 0x1234),
      ([0xC9, 0x34, 0x12], .cmpImm 0x1234),
      ([0xE0, 0x34, 0x12], .cpxImm 0x1234),
      ([0xE9, 0x34, 0x12], .sbcImm 0x1234)] :
      List (List Byte × Instr)).all (fun p => decodesTo false false p.1 p.2) = true := by
  decide +kernel

/-- A list that ends inside an instruction is rejected by name, and so is an empty one. -/
theorem test_decode_too_short :
    (decode true true [0xBF, 0x00, 0x05] = .error (.missingOperand 0xBF)) ∧ (decode true true [] = .error .noOpcode) ∧
    (decode false true [0xA9, 0x34] = .error (.missingOperand 0xA9)) := by
  refine ⟨?_, ?_, ?_⟩ <;> rfl

/-! ### One step -/

/-- Bytes put into memory. -/
def poke (cells : List (Nat × Byte)) (s : State) : State :=
  { s with bus := cells.foldl (fun b p => b.place (BitVec.ofNat 24 p.1) p.2) s.bus }

/-- The start of a vector: these registers, these bytes of memory, the code at PB:PC, and a cartridge or none. -/
def start (cart : Option Cartridge) (c : Cpu) (cells : List (Nat × Byte)) (code : List Byte) : State :=
  let s : State := { cpu := c, bus := { cart := cart } }
  let t := poke cells s
  { t with bus := placeAt c.pb c.pc code t.bus }

/-- Whether one step leaves this CPU and these bytes of memory. -/
def stepGives (s : State) (c : Cpu) (cells : List (Nat × Byte)) : Bool :=
  match step s with
  | .next t => t.cpu == c && cells.all fun p => (rd8 (BitVec.ofNat 24 p.1) t).1 == p.2
  | _ => false

/-- A vector's CPU: code at 0x0400, S = 0x01FF. -/
def cpuAt (e : Bool) (p : Byte) : Cpu := { e := e, p := Status.ofByte p, pc := 0x0400 }

/-- The image `VROM` of 95_test_vectors.md. -/
def vrom : Cartridge where
  rom := [(0x7FE5, 0x91), (0x7FE7, 0x92), (0x7FEB, 0x93), (0x7FEF, 0x94), (0x7FF5, 0x95), (0x7FFB, 0x96), (0x7FFD, 0x80),
    (0x7FFF, 0x97)]
  romSize := 0x8000
  mapping := .lowMapped
  saveRamSize := 0
  title := []
  romType := 0
  romSizeCode := 0
  checksum := 0
  complement := 0
  checksumWarning := false

/-- V-AM1 `LDA $10`. -/
theorem test_vam1_lda :
    stepGives (start none { cpuAt false 0x30 with d := 0x0100 } [(0x000110, 0x5A)] [0xA5, 0x10])
      { cpuAt false 0x30 with d := 0x0100, a := 0x005A, pc := 0x0402, cycles := 3 } [] = true := by
  decide +kernel

/-- V-AM2 `LDA $20`. -/
theorem test_vam2_lda :
    stepGives (start none { cpuAt false 0x30 with d := 0xFFF0 } [(0x000010, 0x77)] [0xA5, 0x20])
      { cpuAt false 0x30 with d := 0xFFF0, a := 0x0077, pc := 0x0402, cycles := 3 } [] = true := by
  decide +kernel

/-- V-AM3 `LDA $10,X`. -/
theorem test_vam3_lda :
    stepGives (start none { cpuAt false 0x30 with x := 0x0005 } [(0x000015, 0x33)] [0xB5, 0x10])
      { cpuAt false 0x30 with x := 0x0005, a := 0x0033, pc := 0x0402, cycles := 4 } [] = true := by
  decide +kernel

/-- V-AM4 `LDA $10,X`. -/
theorem test_vam4_lda :
    stepGives (start none { cpuAt true 0x34 with x := 0x00FF } [(0x00010F, 0x99)] [0xB5, 0x10])
      { cpuAt true 0xB4 with x := 0x00FF, a := 0x0099, pc := 0x0402, cycles := 4 } [] = true := by
  decide +kernel

/-- V-AM5 `LDX $10,Y`. -/
theorem test_vam5_ldx :
    stepGives (start none { cpuAt false 0x30 with y := 0x0002 } [(0x000012, 0x81)] [0xB6, 0x10])
      { cpuAt false 0xB0 with y := 0x0002, x := 0x0081, pc := 0x0402, cycles := 4 } [] = true := by
  decide +kernel

/-- V-AM6 `LDA ($20)`. -/
theorem test_vam6_lda :
    stepGives (start none { cpuAt false 0x30 with db := 0x7E } [(0x000020, 0x00), (0x000021, 0x30), (0x7E3000, 0x11)] [0xB2, 0x20])
      { cpuAt false 0x30 with db := 0x7E, a := 0x0011, pc := 0x0402, cycles := 5 } [] = true := by
  decide +kernel

/-- V-AM7 `LDA [$20]`. -/
theorem test_vam7_lda :
    stepGives (start none (cpuAt false 0x30) [(0x000020, 0x00), (0x000021, 0x30), (0x000022, 0x7F), (0x7F3000, 0x22)] [0xA7, 0x20])
      { cpuAt false 0x30 with a := 0x0022, pc := 0x0402, cycles := 6 } [] = true := by
  decide +kernel

/-- V-AM8 `LDA ($20,X)`. -/
theorem test_vam8_lda :
    stepGives (start none { cpuAt false 0x30 with db := 0x7E, x := 0x0002 } [(0x000022, 0x00), (0x000023, 0x31), (0x7E3100, 0x44)] [0xA1, 0x20])
      { cpuAt false 0x30 with db := 0x7E, x := 0x0002, a := 0x0044, pc := 0x0402, cycles := 6 } [] = true := by
  decide +kernel

/-- V-AM9 `LDA ($20),Y`. -/
theorem test_vam9_lda :
    stepGives (start none { cpuAt false 0x30 with db := 0x7E, y := 0x0001 } [(0x000020, 0xFF), (0x000021, 0xFF), (0x7F0000, 0x55)] [0xB1, 0x20])
      { cpuAt false 0x30 with db := 0x7E, y := 0x0001, a := 0x0055, pc := 0x0402, cycles := 5 } [] = true := by
  decide +kernel

/-- V-AM10 `LDA [$20],Y`. -/
theorem test_vam10_lda :
    stepGives (start none { cpuAt false 0x30 with y := 0x0010 } [(0x000020, 0x00), (0x000021, 0x30), (0x000022, 0x7E), (0x7E3010, 0x66)] [0xB7, 0x20])
      { cpuAt false 0x30 with y := 0x0010, a := 0x0066, pc := 0x0402, cycles := 6 } [] = true := by
  decide +kernel

/-- V-AM11 `LDA $3000`. -/
theorem test_vam11_lda :
    stepGives (start none { cpuAt false 0x30 with db := 0x7E } [(0x7E3000, 0x77)] [0xAD, 0x00, 0x30])
      { cpuAt false 0x30 with db := 0x7E, a := 0x0077, pc := 0x0403, cycles := 4 } [] = true := by
  decide +kernel

/-- V-AM12 `LDA $FFF8,X`. -/
theorem test_vam12_lda :
    stepGives (start none { cpuAt false 0x20 with db := 0x7E, x := 0x0010 } [(0x7F0008, 0x88)] [0xBD, 0xF8, 0xFF])
      { cpuAt false 0xA0 with db := 0x7E, x := 0x0010, a := 0x0088, pc := 0x0403, cycles := 4 } [] = true := by
  decide +kernel

/-- V-AM13 `LDA $3000,Y`. -/
theorem test_vam13_lda :
    stepGives (start none { cpuAt false 0x30 with db := 0x7F, y := 0x0003 } [(0x7F3003, 0x99)] [0xB9, 0x00, 0x30])
      { cpuAt false 0xB0 with db := 0x7F, y := 0x0003, a := 0x0099, pc := 0x0403, cycles := 4 } [] = true := by
  decide +kernel

/-- V-AM14 `LDA $7F3000`. -/
theorem test_vam14_lda :
    stepGives (start none (cpuAt false 0x30) [(0x7F3000, 0xAA)] [0xAF, 0x00, 0x30, 0x7F])
      { cpuAt false 0xB0 with a := 0x00AA, pc := 0x0404, cycles := 5 } [] = true := by
  decide +kernel

/-- V-AM15 `LDA $FFFFFF,X`. -/
theorem test_vam15_lda :
    stepGives (start none { cpuAt false 0x30 with x := 0x0001 } [(0x000000, 0xBB)] [0xBF, 0xFF, 0xFF, 0xFF])
      { cpuAt false 0xB0 with x := 0x0001, a := 0x00BB, pc := 0x0404, cycles := 5 } [] = true := by
  decide +kernel

/-- V-AM16 `LDA $03,S`. -/
theorem test_vam16_lda :
    stepGives (start none { cpuAt false 0x30 with s := 0x01F0 } [(0x0001F3, 0xCC)] [0xA3, 0x03])
      { cpuAt false 0xB0 with s := 0x01F0, a := 0x00CC, pc := 0x0402, cycles := 4 } [] = true := by
  decide +kernel

/-- V-AM17 `LDA ($02,S),Y`. -/
theorem test_vam17_lda :
    stepGives (start none { cpuAt false 0x30 with s := 0x01F0, db := 0x7E, y := 0x0004 } [(0x0001F2, 0x00), (0x0001F3, 0x30), (0x7E3004, 0xDD)] [0xB3, 0x02])
      { cpuAt false 0xB0 with s := 0x01F0, db := 0x7E, y := 0x0004, a := 0x00DD, pc := 0x0402, cycles := 7 } [] = true := by
  decide +kernel

/-- V-AM18 `LDA $FFFF`. -/
theorem test_vam18_lda :
    stepGives (start none { cpuAt false 0x10 with db := 0x7E } [(0x7EFFFF, 0x34), (0x7F0000, 0x12)] [0xAD, 0xFF, 0xFF])
      { cpuAt false 0x10 with db := 0x7E, a := 0x1234, pc := 0x0403, cycles := 4 } [] = true := by
  decide +kernel

/-- V-LS1 `LDA #$00`. -/
theorem test_vls1_lda :
    stepGives (start none { cpuAt false 0x30 with a := 0x1234 } [] [0xA9, 0x00])
      { cpuAt false 0x32 with a := 0x1200, pc := 0x0402, cycles := 2 } [] = true := by
  decide +kernel

/-- V-LS2 `LDA #$8000`. -/
theorem test_vls2_lda :
    stepGives (start none (cpuAt false 0x00) [] [0xA9, 0x00, 0x80])
      { cpuAt false 0x80 with a := 0x8000, pc := 0x0403, cycles := 2 } [] = true := by
  decide +kernel

/-- V-LS3 `LDX #$FF`. -/
theorem test_vls3_ldx :
    stepGives (start none (cpuAt false 0x30) [] [0xA2, 0xFF])
      { cpuAt false 0xB0 with x := 0x00FF, pc := 0x0402, cycles := 2 } [] = true := by
  decide +kernel

/-- V-LS4 `LDY #$1234`. -/
theorem test_vls4_ldy :
    stepGives (start none (cpuAt false 0x00) [] [0xA0, 0x34, 0x12])
      { cpuAt false 0x00 with y := 0x1234, pc := 0x0403, cycles := 2 } [] = true := by
  decide +kernel

/-- V-LS5 `STA $0200`. -/
theorem test_vls5_sta :
    stepGives (start none { cpuAt false 0x00 with a := 0xBEEF } [] [0x8D, 0x00, 0x02])
      { cpuAt false 0x00 with a := 0xBEEF, pc := 0x0403, cycles := 4 } [(0x000200, 0xEF), (0x000201, 0xBE)] = true := by
  decide +kernel

/-- V-LS6 `STZ $0200`. -/
theorem test_vls6_stz :
    stepGives (start none (cpuAt false 0x30) [(0x000200, 0xFF), (0x000201, 0xFF)] [0x9C, 0x00, 0x02])
      { cpuAt false 0x30 with pc := 0x0403, cycles := 4 } [(0x000200, 0x00)] = true := by
  decide +kernel

/-- V-LS7 `STX $10,Y`. -/
theorem test_vls7_stx :
    stepGives (start none { cpuAt false 0x30 with x := 0x0055, y := 0x0001 } [] [0x96, 0x10])
      { cpuAt false 0x30 with x := 0x0055, y := 0x0001, pc := 0x0402, cycles := 4 } [(0x000011, 0x55)] = true := by
  decide +kernel

/-- V-LS8 `STY $0200`. -/
theorem test_vls8_sty :
    stepGives (start none { cpuAt false 0x00 with y := 0xA55A } [] [0x8C, 0x00, 0x02])
      { cpuAt false 0x00 with y := 0xA55A, pc := 0x0403, cycles := 4 } [(0x000200, 0x5A), (0x000201, 0xA5)] = true := by
  decide +kernel

/-- V-LS9 `STZ $0200,X`. -/
theorem test_vls9_stz :
    stepGives (start none (cpuAt false 0x00) [(0x000200, 0xFF), (0x000201, 0xFF)] [0x9E, 0x00, 0x02])
      { cpuAt false 0x00 with pc := 0x0403, cycles := 5 } [(0x000200, 0x00), (0x000201, 0x00)] = true := by
  decide +kernel

/-- V-LS10 `STA $2100`. -/
theorem test_vls10_sta :
    stepGives (start none { cpuAt true 0x34 with a := 0x008F } [] [0x8D, 0x00, 0x21])
      { cpuAt true 0x34 with a := 0x008F, pc := 0x0403, cycles := 4 } [] = true := by
  decide +kernel

/-- V-TR1 `TCS`. -/
theorem test_vtr1_tcs :
    stepGives (start none { cpuAt true 0x34 with a := 0x1234 } [] [0x1B])
      { cpuAt true 0x34 with a := 0x1234, s := 0x0134, pc := 0x0401, cycles := 2 } [] = true := by
  decide +kernel

/-- V-TR2 `TXS`. -/
theorem test_vtr2_txs :
    stepGives (start none { cpuAt false 0x30 with x := 0x0080 } [] [0x9A])
      { cpuAt false 0x30 with x := 0x0080, s := 0x0080, pc := 0x0401, cycles := 2 } [] = true := by
  decide +kernel

/-- V-TR3 `TSC`. -/
theorem test_vtr3_tsc :
    stepGives (start none (cpuAt true 0x34) [] [0x3B])
      { cpuAt true 0x34 with a := 0x01FF, pc := 0x0401, cycles := 2 } [] = true := by
  decide +kernel

/-- V-TR4 `TDC`. -/
theorem test_vtr4_tdc :
    stepGives (start none { cpuAt false 0x30 with d := 0x8000, a := 0x1234 } [] [0x7B])
      { cpuAt false 0xB0 with d := 0x8000, a := 0x8000, pc := 0x0401, cycles := 2 } [] = true := by
  decide +kernel

/-- V-TR5 `TAX`. -/
theorem test_vtr5_tax :
    stepGives (start none { cpuAt false 0x20 with a := 0x00FF, x := 0x1234 } [] [0xAA])
      { cpuAt false 0x20 with a := 0x00FF, x := 0x00FF, pc := 0x0401, cycles := 2 } [] = true := by
  decide +kernel

/-- V-TR6 `TYA`. -/
theorem test_vtr6_tya :
    stepGives (start none { cpuAt false 0x10 with a := 0x1234, y := 0x00F0 } [] [0x98])
      { cpuAt false 0x10 with a := 0x00F0, y := 0x00F0, pc := 0x0401, cycles := 2 } [] = true := by
  decide +kernel

/-- V-TR7 `XBA`. -/
theorem test_vtr7_xba :
    stepGives (start none { cpuAt false 0x30 with a := 0x0000 } [] [0xEB])
      { cpuAt false 0x32 with a := 0x0000, pc := 0x0401, cycles := 3 } [] = true := by
  decide +kernel

/-- V-TR8 `TSX`. -/
theorem test_vtr8_tsx :
    stepGives (start none { cpuAt false 0x00 with s := 0x1FF0 } [] [0xBA])
      { cpuAt false 0x00 with s := 0x1FF0, x := 0x1FF0, pc := 0x0401, cycles := 2 } [] = true := by
  decide +kernel

/-- V-AR1 `ADC #$01`. -/
theorem test_var1_adc :
    stepGives (start none { cpuAt false 0x30 with a := 0x007F } [] [0x69, 0x01])
      { cpuAt false 0xF0 with a := 0x0080, pc := 0x0402, cycles := 2 } [] = true := by
  decide +kernel

/-- V-AR2 `ADC #$01`. -/
theorem test_var2_adc :
    stepGives (start none { cpuAt false 0x30 with a := 0x00FF } [] [0x69, 0x01])
      { cpuAt false 0x33 with a := 0x0000, pc := 0x0402, cycles := 2 } [] = true := by
  decide +kernel

/-- V-AR6 `SBC #$30`. -/
theorem test_var6_sbc :
    stepGives (start none { cpuAt false 0x31 with a := 0x0050 } [] [0xE9, 0x30])
      { cpuAt false 0x31 with a := 0x0020, pc := 0x0402, cycles := 2 } [] = true := by
  decide +kernel

/-- V-AR7 `SBC #$01`. -/
theorem test_var7_sbc :
    stepGives (start none { cpuAt false 0x31 with a := 0x0000 } [] [0xE9, 0x01])
      { cpuAt false 0xB0 with a := 0x00FF, pc := 0x0402, cycles := 2 } [] = true := by
  decide +kernel

/-- V-CP1 `CMP #$42`. -/
theorem test_vcp1_cmp :
    stepGives (start none { cpuAt false 0x30 with a := 0x0042 } [] [0xC9, 0x42])
      { cpuAt false 0x33 with a := 0x0042, pc := 0x0402, cycles := 2 } [] = true := by
  decide +kernel

/-- V-CP2 `CMP #$20`. -/
theorem test_vcp2_cmp :
    stepGives (start none { cpuAt false 0x30 with a := 0x0010 } [] [0xC9, 0x20])
      { cpuAt false 0xB0 with a := 0x0010, pc := 0x0402, cycles := 2 } [] = true := by
  decide +kernel

/-- V-CP5 `CPX #$05`. -/
theorem test_vcp5_cpx :
    stepGives (start none { cpuAt false 0x30 with x := 0x0005 } [] [0xE0, 0x05])
      { cpuAt false 0x33 with x := 0x0005, pc := 0x0402, cycles := 2 } [] = true := by
  decide +kernel

/-- V-CP6 `CPY #$0001`. -/
theorem test_vcp6_cpy :
    stepGives (start none { cpuAt false 0x00 with y := 0x0000 } [] [0xC0, 0x01, 0x00])
      { cpuAt false 0x80 with y := 0x0000, pc := 0x0403, cycles := 2 } [] = true := by
  decide +kernel

/-- V-ID1 `INC A`. -/
theorem test_vid1_inc :
    stepGives (start none { cpuAt false 0x31 with a := 0x12FF } [] [0x1A])
      { cpuAt false 0x33 with a := 0x1200, pc := 0x0401, cycles := 2 } [] = true := by
  decide +kernel

/-- V-ID2 `INC $10`. -/
theorem test_vid2_inc :
    stepGives (start none (cpuAt false 0x00) [(0x000010, 0xFF), (0x000011, 0xFF)] [0xE6, 0x10])
      { cpuAt false 0x02 with pc := 0x0402, cycles := 5 } [(0x000010, 0x00), (0x000011, 0x00)] = true := by
  decide +kernel

/-- V-ID3 `DEC $0200`. -/
theorem test_vid3_dec :
    stepGives (start none (cpuAt false 0x30) [(0x000200, 0x00)] [0xCE, 0x00, 0x02])
      { cpuAt false 0xB0 with pc := 0x0403, cycles := 6 } [(0x000200, 0xFF)] = true := by
  decide +kernel

/-- V-ID4 `INX`. -/
theorem test_vid4_inx :
    stepGives (start none { cpuAt false 0x30 with x := 0x00FF } [] [0xE8])
      { cpuAt false 0x32 with x := 0x0000, pc := 0x0401, cycles := 2 } [] = true := by
  decide +kernel

/-- V-ID6 `DEY`. -/
theorem test_vid6_dey :
    stepGives (start none { cpuAt false 0x30 with y := 0x0000 } [] [0x88])
      { cpuAt false 0xB0 with y := 0x00FF, pc := 0x0401, cycles := 2 } [] = true := by
  decide +kernel

/-- V-ID8 `DEC A`. -/
theorem test_vid8_dec :
    stepGives (start none { cpuAt false 0x00 with a := 0x0000 } [] [0x3A])
      { cpuAt false 0x80 with a := 0xFFFF, pc := 0x0401, cycles := 2 } [] = true := by
  decide +kernel

/-- V-LG1 `AND #$0F`. -/
theorem test_vlg1_and :
    stepGives (start none { cpuAt false 0x30 with a := 0x12F0 } [] [0x29, 0x0F])
      { cpuAt false 0x32 with a := 0x1200, pc := 0x0402, cycles := 2 } [] = true := by
  decide +kernel

/-- V-LG2 `ORA #$800F`. -/
theorem test_vlg2_ora :
    stepGives (start none { cpuAt false 0x00 with a := 0x00F0 } [] [0x09, 0x0F, 0x80])
      { cpuAt false 0x80 with a := 0x80FF, pc := 0x0403, cycles := 2 } [] = true := by
  decide +kernel

/-- V-LG3 `EOR #$FF`. -/
theorem test_vlg3_eor :
    stepGives (start none { cpuAt false 0x30 with a := 0x00FF } [] [0x49, 0xFF])
      { cpuAt false 0x32 with a := 0x0000, pc := 0x0402, cycles := 2 } [] = true := by
  decide +kernel

/-- V-LG4 `BIT $10`. -/
theorem test_vlg4_bit :
    stepGives (start none { cpuAt false 0x30 with a := 0x0001 } [(0x000010, 0xC0)] [0x24, 0x10])
      { cpuAt false 0xF2 with a := 0x0001, pc := 0x0402, cycles := 3 } [] = true := by
  decide +kernel

/-- V-LG5 `BIT $0200`. -/
theorem test_vlg5_bit :
    stepGives (start none { cpuAt false 0x00 with a := 0x4000 } [(0x000200, 0x00), (0x000201, 0x40)] [0x2C, 0x00, 0x02])
      { cpuAt false 0x40 with a := 0x4000, pc := 0x0403, cycles := 4 } [] = true := by
  decide +kernel

/-- V-LG7 `TSB $0200`. -/
theorem test_vlg7_tsb :
    stepGives (start none { cpuAt false 0x00 with a := 0x00FF } [(0x000200, 0x00), (0x000201, 0xFF)] [0x0C, 0x00, 0x02])
      { cpuAt false 0x02 with a := 0x00FF, pc := 0x0403, cycles := 6 } [(0x000200, 0xFF)] = true := by
  decide +kernel

/-- V-LG8 `TRB $0200`. -/
theorem test_vlg8_trb :
    stepGives (start none { cpuAt false 0x00 with a := 0x0F0F } [(0x000200, 0xFF), (0x000201, 0x00)] [0x1C, 0x00, 0x02])
      { cpuAt false 0x00 with a := 0x0F0F, pc := 0x0403, cycles := 6 } [(0x000200, 0xF0)] = true := by
  decide +kernel

/-- V-SH1 `ASL A`. -/
theorem test_vsh1_asl :
    stepGives (start none { cpuAt false 0x00 with a := 0x8001 } [] [0x0A])
      { cpuAt false 0x01 with a := 0x0002, pc := 0x0401, cycles := 2 } [] = true := by
  decide +kernel

/-- V-SH2 `LSR $10`. -/
theorem test_vsh2_lsr :
    stepGives (start none (cpuAt false 0x30) [(0x000010, 0x03)] [0x46, 0x10])
      { cpuAt false 0x31 with pc := 0x0402, cycles := 5 } [(0x000010, 0x01)] = true := by
  decide +kernel

/-- V-SH3 `ROL A`. -/
theorem test_vsh3_rol :
    stepGives (start none { cpuAt false 0x31 with a := 0x0080 } [] [0x2A])
      { cpuAt false 0x31 with a := 0x0001, pc := 0x0401, cycles := 2 } [] = true := by
  decide +kernel

/-- V-SH5 `ROR A`. -/
theorem test_vsh5_ror :
    stepGives (start none { cpuAt false 0x31 with a := 0x0001 } [] [0x6A])
      { cpuAt false 0xB1 with a := 0x0080, pc := 0x0401, cycles := 2 } [] = true := by
  decide +kernel

/-- V-SH6 `ASL $0200,X`. -/
theorem test_vsh6_asl :
    stepGives (start none { cpuAt false 0x30 with x := 0x0005 } [(0x000205, 0x81)] [0x1E, 0x00, 0x02])
      { cpuAt false 0x31 with x := 0x0005, pc := 0x0403, cycles := 7 } [(0x000205, 0x02)] = true := by
  decide +kernel

/-- V-BR1 `BEQ +$10`. -/
theorem test_vbr1_beq :
    stepGives (start none (cpuAt false 0x32) [] [0xF0, 0x10])
      { cpuAt false 0x32 with pc := 0x0412, cycles := 2 } [] = true := by
  decide +kernel

/-- V-BR3 `BNE -2`. -/
theorem test_vbr3_bne :
    stepGives (start none (cpuAt false 0x30) [] [0xD0, 0xFE])
      { cpuAt false 0x30 with pc := 0x0400, cycles := 2 } [] = true := by
  decide +kernel

/-- V-BR4 `BRA +4`. -/
theorem test_vbr4_bra :
    stepGives (start none { cpuAt false 0x30 with pb := 0x7E, pc := 0xFFFC } [] [0x80, 0x04])
      { cpuAt false 0x30 with pb := 0x7E, pc := 0x0002, cycles := 3 } [] = true := by
  decide +kernel

/-- V-BR5 `BRL -3`. -/
theorem test_vbr5_brl :
    stepGives (start none (cpuAt false 0x30) [] [0x82, 0xFD, 0xFF])
      { cpuAt false 0x30 with pc := 0x0400, cycles := 4 } [] = true := by
  decide +kernel

/-- V-BR7 `BMI +127`. -/
theorem test_vbr7_bmi :
    stepGives (start none (cpuAt false 0xB0) [] [0x30, 0x7F])
      { cpuAt false 0xB0 with pc := 0x0481, cycles := 2 } [] = true := by
  decide +kernel

/-- V-BR8 `BVC +2`. -/
theorem test_vbr8_bvc :
    stepGives (start none (cpuAt false 0x70) [] [0x50, 0x02])
      { cpuAt false 0x70 with pc := 0x0402, cycles := 2 } [] = true := by
  decide +kernel

/-- V-BR9 `BCC +2`. -/
theorem test_vbr9_bcc :
    stepGives (start none (cpuAt false 0x31) [] [0x90, 0x02])
      { cpuAt false 0x31 with pc := 0x0402, cycles := 2 } [] = true := by
  decide +kernel

/-- V-JP1 `JMP $1234`. -/
theorem test_vjp1_jmp :
    stepGives (start none (cpuAt false 0x30) [] [0x4C, 0x34, 0x12])
      { cpuAt false 0x30 with pc := 0x1234, cycles := 3 } [] = true := by
  decide +kernel

/-- V-JP2 `JML $123456`. -/
theorem test_vjp2_jml :
    stepGives (start none (cpuAt false 0x30) [] [0x5C, 0x56, 0x34, 0x12])
      { cpuAt false 0x30 with pb := 0x12, pc := 0x3456, cycles := 4 } [] = true := by
  decide +kernel

/-- V-JP3 `JSR $0500`. -/
theorem test_vjp3_jsr :
    stepGives (start none { cpuAt false 0x30 with s := 0x1FFF } [] [0x20, 0x00, 0x05])
      { cpuAt false 0x30 with s := 0x1FFD, pc := 0x0500, cycles := 6 } [(0x001FFE, 0x02), (0x001FFF, 0x04)] = true := by
  decide +kernel

/-- V-JP6 `JSR $0500`. -/
theorem test_vjp6_jsr :
    stepGives (start none { cpuAt true 0x34 with s := 0x0100 } [] [0x20, 0x00, 0x05])
      { cpuAt true 0x34 with s := 0x01FE, pc := 0x0500, cycles := 6 } [(0x000100, 0x04), (0x0001FF, 0x02)] = true := by
  decide +kernel

/-- V-JP7 `JMP ($0500,X)`. -/
theorem test_vjp7_jmp :
    stepGives (start none { cpuAt false 0x30 with pb := 0x7E, x := 0x0004, pc := 0x0400 } [(0x7E0504, 0x78), (0x7E0505, 0x56)] [0x7C, 0x00, 0x05])
      { cpuAt false 0x30 with pb := 0x7E, x := 0x0004, pc := 0x5678, cycles := 6 } [] = true := by
  decide +kernel

/-- V-ST2 `PLP`. -/
theorem test_vst2_plp :
    stepGives (start none { cpuAt true 0x34 with s := 0x01FF } [(0x000100, 0x00)] [0x28])
      { cpuAt true 0x30 with s := 0x0100, pc := 0x0401, cycles := 4 } [] = true := by
  decide +kernel

/-- V-ST3 `PEA $1234`. -/
theorem test_vst3_pea :
    stepGives (start none { cpuAt false 0x30 with s := 0x1FFF } [] [0xF4, 0x34, 0x12])
      { cpuAt false 0x30 with s := 0x1FFD, pc := 0x0403, cycles := 5 } [(0x001FFE, 0x34), (0x001FFF, 0x12)] = true := by
  decide +kernel

/-- V-ST4 `PEI ($20)`. -/
theorem test_vst4_pei :
    stepGives (start none { cpuAt false 0x30 with s := 0x1FFF } [(0x000020, 0xCD), (0x000021, 0xAB)] [0xD4, 0x20])
      { cpuAt false 0x30 with s := 0x1FFD, pc := 0x0402, cycles := 6 } [(0x001FFE, 0xCD), (0x001FFF, 0xAB)] = true := by
  decide +kernel

/-- V-ST5 `PER +$0010`. -/
theorem test_vst5_per :
    stepGives (start none { cpuAt false 0x30 with s := 0x1FFF } [] [0x62, 0x10, 0x00])
      { cpuAt false 0x30 with s := 0x1FFD, pc := 0x0403, cycles := 6 } [(0x001FFE, 0x13), (0x001FFF, 0x04)] = true := by
  decide +kernel

/-- V-ST6 `PLB`. -/
theorem test_vst6_plb :
    stepGives (start none { cpuAt false 0x30 with s := 0x1FFE } [(0x001FFF, 0x80)] [0xAB])
      { cpuAt false 0xB0 with s := 0x1FFF, db := 0x80, pc := 0x0401, cycles := 4 } [] = true := by
  decide +kernel

/-- V-ST7 `PHD`. -/
theorem test_vst7_phd :
    stepGives (start none { cpuAt true 0x34 with s := 0x01FF, d := 0x2100 } [] [0x0B])
      { cpuAt true 0x34 with s := 0x01FD, d := 0x2100, pc := 0x0401, cycles := 4 } [(0x0001FF, 0x21)] = true := by
  decide +kernel

/-- V-ST8 `PLA`. -/
theorem test_vst8_pla :
    stepGives (start none { cpuAt true 0x34 with s := 0x01FF } [(0x000100, 0xAB)] [0x68])
      { cpuAt true 0xB4 with s := 0x0100, a := 0x00AB, pc := 0x0401, cycles := 4 } [] = true := by
  decide +kernel

/-- V-ST9 `PHA`. -/
theorem test_vst9_pha :
    stepGives (start none { cpuAt false 0x10 with s := 0x0100, a := 0xBEEF } [] [0x48])
      { cpuAt false 0x10 with s := 0x00FE, a := 0xBEEF, pc := 0x0401, cycles := 3 } [(0x0000FF, 0xEF), (0x000100, 0xBE)] = true := by
  decide +kernel

/-- V-FM1 `REP #$30`. -/
theorem test_vfm1_rep :
    stepGives (start none (cpuAt false 0x30) [] [0xC2, 0x30])
      { cpuAt false 0x00 with pc := 0x0402, cycles := 3 } [] = true := by
  decide +kernel

/-- V-FM2 `SEP #$10`. -/
theorem test_vfm2_sep :
    stepGives (start none { cpuAt false 0x00 with x := 0x1234, y := 0xABCD } [] [0xE2, 0x10])
      { cpuAt false 0x10 with x := 0x0034, y := 0x00CD, pc := 0x0402, cycles := 3 } [] = true := by
  decide +kernel

/-- V-FM4 `XCE`. -/
theorem test_vfm4_xce :
    stepGives (start none { cpuAt false 0x01 with s := 0x1FFF, x := 0x1234 } [] [0xFB])
      { cpuAt true 0x30 with s := 0x01FF, x := 0x0034, pc := 0x0401, cycles := 2 } [] = true := by
  decide +kernel

/-- V-FM7 `PLP`. -/
theorem test_vfm7_plp :
    stepGives (start none { cpuAt false 0x00 with x := 0x1234, y := 0x5678, s := 0x1FFE } [(0x001FFF, 0x10)] [0x28])
      { cpuAt false 0x10 with x := 0x0034, y := 0x0078, s := 0x1FFF, pc := 0x0401, cycles := 4 } [] = true := by
  decide +kernel

/-- V-IN1 `BRK #$00`. -/
theorem test_vin1_brk :
    stepGives (start (some vrom) { cpuAt false 0x08 with s := 0x1FFF } [] [0x00, 0xEA])
      { cpuAt false 0x04 with s := 0x1FFB, pc := 0x9200, cycles := 7 } [(0x001FFC, 0x08), (0x001FFD, 0x02), (0x001FFE, 0x04)] = true := by
  decide +kernel

/-- V-IN2 `BRK #$00`. -/
theorem test_vin2_brk :
    stepGives (start (some vrom) { cpuAt true 0x34 with s := 0x01FF } [] [0x00, 0xEA])
      { cpuAt true 0x34 with s := 0x01FC, pc := 0x9700, cycles := 7 } [(0x0001FD, 0x34), (0x0001FE, 0x02), (0x0001FF, 0x04)] = true := by
  decide +kernel

/-- V-IN3 `COP #$00`. -/
theorem test_vin3_cop :
    stepGives (start (some vrom) { cpuAt true 0x30 with s := 0x01FF } [] [0x02, 0xEA])
      { cpuAt true 0x34 with s := 0x01FC, pc := 0x9500, cycles := 7 } [(0x0001FD, 0x30), (0x0001FE, 0x02), (0x0001FF, 0x04)] = true := by
  decide +kernel

/-- V-IN4 `COP #$00`. -/
theorem test_vin4_cop :
    stepGives (start (some vrom) { cpuAt false 0x30 with s := 0x1FFF, pb := 0x7E, pc := 0x0400 } [] [0x02, 0xEA])
      { cpuAt false 0x34 with s := 0x1FFB, pb := 0x00, pc := 0x9100, cycles := 7 } [(0x001FFC, 0x30), (0x001FFD, 0x02), (0x001FFE, 0x04), (0x001FFF, 0x7E)] = true := by
  decide +kernel

/-- V-IN5 `RTI`. -/
theorem test_vin5_rti :
    stepGives (start none { cpuAt false 0x30 with s := 0x1FFB } [(0x001FFC, 0xC3), (0x001FFD, 0x00), (0x001FFE, 0x90), (0x001FFF, 0x7E)] [0x40])
      { cpuAt false 0xC3 with s := 0x1FFF, pb := 0x7E, pc := 0x9000, cycles := 6 } [] = true := by
  decide +kernel

/-- V-IN6 `RTI`. -/
theorem test_vin6_rti :
    stepGives (start none { cpuAt true 0x34 with s := 0x01FC } [(0x0001FD, 0xC3), (0x0001FE, 0x00), (0x0001FF, 0x90), (0x000200, 0x7E)] [0x40])
      { cpuAt true 0xF3 with s := 0x01FF, pc := 0x9000, cycles := 6 } [] = true := by
  decide +kernel

/-- V-IN14 `WDM #$FF`. -/
theorem test_vin14_wdm :
    stepGives (start none (cpuAt false 0x30) [] [0x42, 0xFF])
      { cpuAt false 0x30 with pc := 0x0402, cycles := 2 } [] = true := by
  decide +kernel

/-- V-IN15 `NOP`. -/
theorem test_vin15_nop :
    stepGives (start none (cpuAt false 0x30) [] [0xEA])
      { cpuAt false 0x30 with pc := 0x0401, cycles := 2 } [] = true := by
  decide +kernel

/-- V-IN7 `(NMI)`. -/
theorem test_vin7_nmi :
    stepGives (start (some vrom) { cpuAt false 0x34 with s := 0x1FFF, nmiPending := true } [] [0xEA])
      { cpuAt false 0x34 with s := 0x1FFB, pc := 0x9300, cycles := 8 } [(0x001FFC, 0x34), (0x001FFE, 0x04)] = true := by
  decide +kernel

/-- V-IN8 `(IRQ)`. -/
theorem test_vin8_irq :
    stepGives (start (some vrom) { cpuAt true 0x30 with s := 0x01FF, irqPending := true } [] [0xEA])
      { cpuAt true 0x34 with s := 0x01FC, pc := 0x9700, cycles := 7, irqPending := true } [(0x0001FD, 0x20), (0x0001FF, 0x04)] = true := by
  decide +kernel

/-- V-IN10 `(NMI and IRQ)`. -/
theorem test_vin10_nmi_and_irq :
    stepGives (start (some vrom) { cpuAt false 0x30 with s := 0x1FFF, nmiPending := true, irqPending := true } [] [0xEA])
      { cpuAt false 0x34 with s := 0x1FFB, pc := 0x9300, cycles := 8, irqPending := true } [(0x001FFC, 0x30), (0x001FFE, 0x04)] = true := by
  decide +kernel

/-- V-BM4 `MVN $7F,$7E (1 step)`. -/
theorem test_vbm4_mvn :
    stepGives (start none { cpuAt false 0x20 with a := 0x0002, x := 0x1000, y := 0x2000 } [(0x7F1000, 0xA1), (0x7F1001, 0xA2), (0x7F1002, 0xA3)] [0x54, 0x7E, 0x7F])
      { cpuAt false 0x20 with a := 0x0001, x := 0x1001, y := 0x2001, db := 0x7E, pc := 0x0400, cycles := 7 } [(0x7E2000, 0xA1)] = true := by
  decide +kernel

/-! Instructions without a one-step vector there: hand calculation from the rule. -/

/-- R428: PB, then PC - 1. -/
theorem test_jsl :
    stepGives (start none { cpuAt false 0x30 with s := 0x1FFF, pb := 0x7E } [] [0x22, 0x00, 0x05, 0x7F])
      { cpuAt false 0x30 with s := 0x1FFC, pb := 0x7F, pc := 0x0500, cycles := 8 } [(0x001FFF, 0x7E), (0x001FFE, 0x04), (0x001FFD, 0x03)] = true := by
  decide +kernel

/-- R411: N = 1, not taken. -/
theorem test_bpl :
    stepGives (start none (cpuAt false 0xB0) [] [0x10, 0x10])
      { cpuAt false 0xB0 with pc := 0x0402, cycles := 2 } [] = true := by
  decide +kernel

/-- R414: V = 1, taken backwards. -/
theorem test_bvs :
    stepGives (start none (cpuAt false 0x70) [] [0x70, 0xFC])
      { cpuAt false 0x70 with pc := 0x03FE, cycles := 2 } [] = true := by
  decide +kernel

/-- R416: C = 1, taken. -/
theorem test_bcs :
    stepGives (start none (cpuAt false 0x31) [] [0xB0, 0x7F])
      { cpuAt false 0x31 with pc := 0x0481, cycles := 2 } [] = true := by
  decide +kernel

/-- R429: the pulled word plus 1. -/
theorem test_rts :
    stepGives (start none { cpuAt false 0x30 with s := 0x1FFD } [(0x001FFE, 0x02), (0x001FFF, 0x04)] [0x60])
      { cpuAt false 0x30 with s := 0x1FFF, pc := 0x0403, cycles := 6 } [] = true := by
  decide +kernel

/-- R430: PC plus 1, then PB. -/
theorem test_rtl :
    stepGives (start none { cpuAt false 0x30 with s := 0x1FFC } [(0x001FFD, 0xFF), (0x001FFE, 0xFF), (0x001FFF, 0x7E)] [0x6B])
      { cpuAt false 0x30 with s := 0x1FFF, pc := 0x0000, pb := 0x7E, cycles := 6 } [] = true := by
  decide +kernel

/-- R455: DB is pushed. -/
theorem test_phb :
    stepGives (start none { cpuAt false 0x30 with s := 0x1FFF, db := 0x7E } [] [0x8B])
      { cpuAt false 0x30 with s := 0x1FFE, db := 0x7E, pc := 0x0401, cycles := 3 } [(0x001FFF, 0x7E)] = true := by
  decide +kernel

/-- R457: PB is pushed. -/
theorem test_phk :
    stepGives (start none { cpuAt false 0x30 with s := 0x1FFF, pb := 0x7E } [] [0x4B])
      { cpuAt false 0x30 with s := 0x1FFE, pb := 0x7E, pc := 0x0401, cycles := 3 } [(0x001FFF, 0x7E)] = true := by
  decide +kernel

/-- R454: P is pushed as it is. -/
theorem test_php :
    stepGives (start none { cpuAt false 0xC3 with s := 0x1FFF } [] [0x08])
      { cpuAt false 0xC3 with s := 0x1FFE, pc := 0x0401, cycles := 3 } [(0x001FFF, 0xC3)] = true := by
  decide +kernel

/-- R452: 16-bit X, high byte first. -/
theorem test_phx :
    stepGives (start none { cpuAt false 0x20 with s := 0x1FFF, x := 0x1234 } [] [0xDA])
      { cpuAt false 0x20 with s := 0x1FFD, x := 0x1234, pc := 0x0401, cycles := 3 } [(0x001FFF, 0x12), (0x001FFE, 0x34)] = true := by
  decide +kernel

/-- R453: 8-bit Y. -/
theorem test_phy :
    stepGives (start none { cpuAt false 0x30 with s := 0x1FFF, y := 0x0034 } [] [0x5A])
      { cpuAt false 0x30 with s := 0x1FFE, y := 0x0034, pc := 0x0401, cycles := 3 } [(0x001FFF, 0x34)] = true := by
  decide +kernel

/-- R462: 16-bit X, N from bit 15. -/
theorem test_plx :
    stepGives (start none { cpuAt false 0x20 with s := 0x1FFD } [(0x001FFE, 0x34), (0x001FFF, 0x92)] [0xFA])
      { cpuAt false 0xA0 with s := 0x1FFF, pc := 0x0401, x := 0x9234, cycles := 4 } [] = true := by
  decide +kernel

/-- R463: 8-bit Y, Z. -/
theorem test_ply :
    stepGives (start none { cpuAt false 0x30 with s := 0x1FFE, y := 0x0055 } [] [0x7A])
      { cpuAt false 0x32 with s := 0x1FFF, y := 0x0000, pc := 0x0401, cycles := 4 } [] = true := by
  decide +kernel

/-- R466: D, 16 bits whatever P.M. -/
theorem test_pld :
    stepGives (start none { cpuAt false 0x30 with s := 0x1FFD } [(0x001FFE, 0x00), (0x001FFF, 0x80)] [0x2B])
      { cpuAt false 0xB0 with s := 0x1FFF, pc := 0x0401, d := 0x8000, cycles := 5 } [] = true := by
  decide +kernel

/-- R490. -/
theorem test_clc :
    stepGives (start none (cpuAt false 0xFF) [] [0x18])
      { cpuAt false 0xFE with pc := 0x0401, cycles := 2 } [] = true := by
  decide +kernel

/-- R491. -/
theorem test_sec :
    stepGives (start none (cpuAt false 0x30) [] [0x38])
      { cpuAt false 0x31 with pc := 0x0401, cycles := 2 } [] = true := by
  decide +kernel

/-- R492. -/
theorem test_cli :
    stepGives (start none (cpuAt false 0xFF) [] [0x58])
      { cpuAt false 0xFB with pc := 0x0401, cycles := 2 } [] = true := by
  decide +kernel

/-- R493. -/
theorem test_sei :
    stepGives (start none (cpuAt false 0x30) [] [0x78])
      { cpuAt false 0x34 with pc := 0x0401, cycles := 2 } [] = true := by
  decide +kernel

/-- R494. -/
theorem test_cld :
    stepGives (start none (cpuAt false 0xFF) [] [0xD8])
      { cpuAt false 0xF7 with pc := 0x0401, cycles := 2 } [] = true := by
  decide +kernel

/-- R495. -/
theorem test_sed :
    stepGives (start none (cpuAt false 0x30) [] [0xF8])
      { cpuAt false 0x38 with pc := 0x0401, cycles := 2 } [] = true := by
  decide +kernel

/-- R496. -/
theorem test_clv :
    stepGives (start none (cpuAt false 0xFF) [] [0xB8])
      { cpuAt false 0xBF with pc := 0x0401, cycles := 2 } [] = true := by
  decide +kernel

/-- R343: 8-bit wrap. -/
theorem test_dex :
    stepGives (start none { cpuAt false 0x30 with x := 0x0000 } [] [0xCA])
      { cpuAt false 0xB0 with x := 0x00FF, pc := 0x0401, cycles := 2 } [] = true := by
  decide +kernel

/-- R342: 16-bit wrap. -/
theorem test_iny :
    stepGives (start none { cpuAt false 0x20 with y := 0xFFFF } [] [0xC8])
      { cpuAt false 0x22 with y := 0x0000, pc := 0x0401, cycles := 2 } [] = true := by
  decide +kernel

/-- R302: 8-bit Y takes the low byte. -/
theorem test_tay :
    stepGives (start none { cpuAt false 0x10 with a := 0x1280 } [] [0xA8])
      { cpuAt false 0x90 with a := 0x1280, pc := 0x0401, y := 0x0080, cycles := 2 } [] = true := by
  decide +kernel

/-- R311: all 16 bits whatever P.M. -/
theorem test_tcd :
    stepGives (start none { cpuAt false 0x30 with a := 0x8000 } [] [0x5B])
      { cpuAt false 0xB0 with a := 0x8000, pc := 0x0401, d := 0x8000, cycles := 2 } [] = true := by
  decide +kernel

/-- R303: 8-bit A keeps its high byte. -/
theorem test_txa :
    stepGives (start none { cpuAt false 0x20 with a := 0x1200, x := 0x3456 } [] [0x8A])
      { cpuAt false 0x20 with a := 0x1256, x := 0x3456, pc := 0x0401, cycles := 2 } [] = true := by
  decide +kernel

/-- R305. -/
theorem test_txy :
    stepGives (start none { cpuAt false 0x20 with x := 0x8000 } [] [0x9B])
      { cpuAt false 0xA0 with x := 0x8000, pc := 0x0401, y := 0x8000, cycles := 2 } [] = true := by
  decide +kernel

/-- R306. -/
theorem test_tyx :
    stepGives (start none { cpuAt false 0x30 with y := 0x0000, x := 0x0012 } [] [0xBB])
      { cpuAt false 0x32 with y := 0x0000, x := 0x0000, pc := 0x0401, cycles := 2 } [] = true := by
  decide +kernel

/-- R509. -/
theorem test_wai :
    stepGives (start none (cpuAt false 0x34) [] [0xCB])
      { cpuAt false 0x34 with pc := 0x0401, cycles := 3, waiting := true } [] = true := by
  decide +kernel

/-- R510. -/
theorem test_stp :
    stepGives (start none (cpuAt false 0x30) [] [0xDB])
      { cpuAt false 0x30 with pc := 0x0401, cycles := 3, stopped := true } [] = true := by
  decide +kernel

/-- R531: one step of V-BM2. -/
theorem test_mvp :
    stepGives (start none { cpuAt false 0x20 with a := 0x0001, x := 0x1001, y := 0x2001 } [(0x7F1001, 0xB2)] [0x44, 0x7E, 0x7F])
      { cpuAt false 0x20 with a := 0x0000, x := 0x1000, y := 0x2000, pc := 0x0400, db := 0x7E, cycles := 7 } [(0x7E2001, 0xB2)] = true := by
  decide +kernel

/-- R530: the last step of V-BM1. -/
theorem test_mvn_last :
    stepGives (start none { cpuAt false 0x20 with a := 0x0000, x := 0x1002, y := 0x2002 } [(0x7F1002, 0xA3)] [0x54, 0x7E, 0x7F])
      { cpuAt false 0x20 with a := 0xFFFF, x := 0x1003, y := 0x2003, pc := 0x0403, db := 0x7E, cycles := 7 } [(0x7E2002, 0xA3)] = true := by
  decide +kernel

/-! ### Devices -/

/-- Bytes written to offsets of bank 0, in order. -/
def writes (l : List (Nat × Byte)) (b : Bus) : Bus :=
  l.foldl (fun b p => b.wr8 .document (BitVec.ofNat 24 p.1) p.2) b

/-- The bytes read at offsets of bank 0, in order, and the bus after. -/
def reads (l : List Nat) (b : Bus) : List Byte × Bus :=
  l.foldl (fun r o => let q := r.2.rd8 (BitVec.ofNat 24 o); (r.1 ++ [q.1], q.2)) ([], b)

/-- S3: the work-RAM mirror. -/
theorem test_s3_work_ram_mirror :
    (([0x000010, 0x800010, 0x3F0010, 0xBF0010] : List Addr).map fun a =>
      (rd8 a (wr8 0x7E0010 0xAB State.reset)).1) = [0xAB, 0xAB, 0xAB, 0xAB] := by
  decide +kernel

/-- V-VR1: increment after the high byte. -/
theorem test_vvr1_vram_word :
    let b := writes [(0x2115, 0x80), (0x2116, 0x00), (0x2117, 0x10), (0x2118, 0xCD), (0x2119, 0xAB)] {}
    b.ppu.vramWord 0x1000 = 0xABCD ∧ b.ppu.vramAddr = 0x1001 := by
  decide +kernel

/-- V-VR2: step 32, the address masked to 15 bits, the increment modulo 2^16. -/
theorem test_vvr2_vram_step :
    let b := writes [(0x2115, 0x01), (0x2116, 0xF0), (0x2117, 0xFF), (0x2118, 0x11)] {}
    b.ppu.vramWord 0x7FF0 = 0x0011 ∧ b.ppu.vramAddr = 0x0010 := by
  decide +kernel

/-- V-VR4: reads come from the latch. -/
theorem test_vvr4_vram_reads :
    let b := writes [(0x2115, 0x00), (0x2116, 0x00), (0x2117, 0x20), (0x2118, 0x11), (0x2119, 0x22), (0x2118, 0x33)] {}
    let r := reads [0x2139, 0x213A, 0x2139, 0x213A] (writes [(0x2116, 0x00), (0x2117, 0x20)] b)
    r.1 = [0x11, 0x22, 0x33, 0x00] ∧ r.2.ppu.vramAddr = 0x2002 := by
  decide +kernel

/-- V-CG1 and V-CG2: 15 bits are committed, and read back. -/
theorem test_vcg1_palette :
    let b := writes [(0x2121, 0x10), (0x2122, 0xFF), (0x2122, 0xFF)] {}
    let r := reads [0x213B, 0x213B] (writes [(0x2121, 0x10)] b)
    Cells.read b.ppu.cgram 0x10 = 0x7FFF ∧ b.ppu.cgIndex = 17 ∧ r.1 = [0xFF, 0x7F] ∧ r.2.ppu.cgIndex = 17 := by
  decide +kernel

/-- V-CG4: an index write discards the latched byte. -/
theorem test_vcg4_palette_latch :
    let b := writes [(0x2122, 0x55), (0x2121, 0x05), (0x2122, 0x66), (0x2122, 0x07)] {}
    Cells.read b.ppu.cgram 5 = 0x0766 ∧ Cells.read b.ppu.cgram 0 = 0 ∧ b.ppu.cgIndex = 6 := by
  decide +kernel

/-- V-PR2 and V-PR3: the read of 0x4210 clears `nmi_flag`, the read of 0x4212 clears nothing. -/
theorem test_vpr2_status_reads :
    (reads [0x4210, 0x4210, 0x4212, 0x4212] { nmiFlag := true, inVblank := true }).1 = [0x80, 0x00, 0x80, 0x80] := by
  decide +kernel

/-- V-PR4 and V-PR5: the APU ports, the controller stub and the flat array. -/
theorem test_vpr4_ports :
    (reads [0x2140, 0x2143, 0x4218, 0x4016, 0x21FF] (writes [(0x2140, 0x12), (0x2143, 0x34), (0x21FF, 0x5A)] {})).1 =
      [0x12, 0x34, 0x00, 0x00, 0x5A] := by
  decide +kernel

/-- V-DMA1: mode 1 alternates 0x2118 and 0x2119. -/
theorem test_vdma1_vram :
    let b : Bus := { wram := [(0x100, 0x11), (0x101, 0x22), (0x102, 0x33), (0x103, 0x44)] }
    let t := writes [(0x2115, 0x80), (0x2116, 0x00), (0x2117, 0x30), (0x4300, 0x01), (0x4302, 0x18), (0x4303, 0x00),
      (0x4304, 0x01), (0x4305, 0x7E), (0x4308, 0x04), (0x4309, 0x00), (0x420B, 0x01)] b
    t.ppu.vramWord 0x3000 = 0x2211 ∧ t.ppu.vramWord 0x3001 = 0x4433 ∧
      [0x4303, 0x4304, 0x4308, 0x4309, 0x420B].map t.regAt = [0x04, 0x01, 0x00, 0x00, 0x00] := by
  decide +kernel

/-- V-DMA3: B to A. -/
theorem test_vdma3_b_to_a :
    let t := writes [(0x4300, 0x80), (0x4302, 0x40), (0x4303, 0x00), (0x4304, 0x03), (0x4305, 0x7E), (0x4308, 0x02),
      (0x4309, 0x00), (0x420B, 0x01)] { apuPort0 := 0x5A }
    t.wram = [(0x300, 0x5A), (0x301, 0x5A)] ∧ t.regAt 0x4303 = 0x02 := by
  decide +kernel

/-- V-DMA5: a register as A-bus source reads 0x00. -/
theorem test_vdma5_register_source :
    let t := writes [(0x2121, 0x00), (0x4300, 0x00), (0x4302, 0x22), (0x4303, 0x10), (0x4304, 0x21), (0x4305, 0x00),
      (0x4308, 0x02), (0x420B, 0x01)] {}
    Cells.read t.ppu.cgram 0 = 0 ∧ t.ppu.cgIndex = 1 := by
  decide +kernel

/-- V-PX1 and V-PX4: the worked pixel, and a tile of palette group 1. -/
theorem test_vpx_pixels :
    let p : Ppu := { bgMode := 0, mainMask := 0x01, brightness := 15, layer1 := { charBase := 0x1000 } }
    let one : Ppu := { p with vram := [(0, 0x0001), (0x1008, 0x0080)], cgram := [(1, 0x001F)] }
    let four : Ppu := { p with vram := [(0, 0x0401), (0x1008, 0x8080)], cgram := [(7, 0x03E0)] }
    one.pixel .replicate 0 0 = ⟨255, 0, 0, 255⟩ ∧ one.pixel .replicate 0 1 = ⟨0, 0, 0, 255⟩ ∧
      four.pixel .replicate 0 0 = ⟨0, 255, 0, 255⟩ := by
  decide +kernel

/-- V-PX6: four bits per pixel in mode 1. -/
theorem test_vpx6_pixel :
    let p : Ppu := { bgMode := 1, mainMask := 0x01, brightness := 15, layer1 := { charBase := 0x1000 }
                     vram := [(0, 0x0001), (0x1018, 0x0080)], cgram := [(4, 0x7C00)] }
    p.pixel .replicate 0 0 = ⟨0, 0, 255, 255⟩ := by
  decide +kernel

/-- V-RS1 and V-RS2: PC comes from the vector; with no cartridge it is 0. -/
theorem test_vrs_reset :
    (hostReset { bus := { cart := some vrom }, cpu := { cpuAt false 0x00 with stopped := true } }).cpu =
      { cpuAt true 0x34 with pc := 0x8000 } ∧ (hostReset {}).cpu = { cpuAt true 0x34 with pc := 0x0000 } := by
  decide +kernel

/-- V-IN7's start, delivered as R551 says: vertical blank sets the NMI latch only where 0x4200 bit 7 is set. -/
theorem test_vblank_latches_nmi :
    (vblankEntry { bus := { regs := [(0x2200, 0x80)] } }).cpu.nmiPending = true ∧
    (vblankEntry { bus := { regs := [(0x2200, 0x7F)] } }).cpu.nmiPending = false := by
  decide +kernel

/-- Placing an instruction at reset changes the four bytes only, and the next step runs it (log 8). -/
theorem test_withFetchWord :
    (State.reset.withFetchWord 16 0x42A9).bus.wram = [(0, 0xA9), (1, 0x42)] ∧
    stepGives (State.reset.withFetchWord 16 0x42A9) { cpuAt true 0x34 with a := 0x42, pc := 2, cycles := 2 } [] = true := by
  decide +kernel

/-! ### Witnesses: for each statement with hypotheses, states and operands that meet them -/

/-- An empty bus is in canonical form. -/
theorem emptyBus_memOk (c : Option Cartridge) (hc : ∀ x, c = some x → Cells.ok (w := 8) x.romSize x.rom) :
    ({ cart := c } : Bus).MemOk := by
  constructor <;> first | exact hc | simp [Cells.ok, Cells.wf, Cells.below]

theorem noCart_memOk : ({} : Bus).MemOk := emptyBus_memOk none (by simp)

/-- A cartridge with save-RAM. -/
def saveCart (m : Mapping) : Cartridge := { vrom with rom := [], saveRamSize := 0x2000, mapping := m }

theorem saveCart_memOk (m : Mapping) : ({ cart := some (saveCart m) } : Bus).MemOk :=
  emptyBus_memOk _ (by
    intro x hx
    cases hx
    simp [saveCart, Cells.ok, Cells.wf, Cells.below])

/-- The modes of a native 16-bit and of an emulation-mode CPU are legal. -/
theorem native_modeOk : (cpuAt false 0x00).ModeOk := by
  constructor <;> decide +kernel

theorem emulation_modeOk : (cpuAt true 0x34).ModeOk := by
  constructor <;> decide +kernel

theorem witness_DecodeOfEncode :
    (Instr.oraImm 0x00FF).wellFormed true true = true ∧ (Instr.oraImm 0xFFFF).wellFormed false true = true ∧
    (Instr.cpxImm 0x00FF).wellFormed true true = true ∧ (Instr.mvnBm 0xFF 0xFF).wellFormed true true = true := by
  decide +kernel

theorem witness_EncodeOfDecode :
    decode true true [0x09, 0xFF] = .ok (.oraImm 0x00FF, []) ∧ decode false true [0x09, 0xFF, 0xFF] = .ok (.oraImm 0xFFFF, []) ∧
    decode true true [0xFF, 0xFF, 0xFF, 0xFF] = .ok (.sbcLongx 0xFFFFFF, []) := by
  refine ⟨?_, ?_, ?_⟩ <;> rfl

theorem witness_OpcodeMap :
    (Instr.ldaImm 0x00FF).opcode = (Instr.ldaImm 0x00FF).opcode ∧ (Instr.ldaImm 0x00FF).wellFormed true true = true ∧
    (Instr.ldaImm 0x01FF).operandBytes true true = (Instr.ldaImm 0x00FF).operandBytes true true ∧
    (Instr.ldaImm 0x01FF).wellFormed true true = false := by
  decide +kernel

/-- Four bytes across the end of a program bank. -/
theorem witness_FetchReads :
    let s : State := { cpu := { pb := 0x7E, pc := 0xFFFE } }
    ∀ k < 4, (s.bus.target (addrOf s.cpu.pb (s.cpu.pc + BitVec.ofNat 16 k))).quiet = true := by
  decide +kernel

theorem witness_StepRuns :
    let s := State.reset.withFetchWord 16 0x42A9
    let s0 : State := { s with cpu := { s.cpu with waiting := false }, bus := { s.bus with dmaBytes := 0 } }
    s.cpu.stopped = false ∧ pendingInterrupt s.cpu = none ∧ (s.cpu.waiting = true → s.cpu.irqPending = true) ∧
    (Instr.ldaImm 0x42).opcode ∉ s.params.unimplemented ∧ (fetchBytes 2 s0).1 = [0xA9, 0x42] := by
  decide +kernel

theorem witness_StepRuns_decode : decode true true [0xA9, 0x42] = .ok (.ldaImm 0x42, []) := rfl

/-- One state for each of the five clauses: stopped; NMI with IRQ; IRQ alone; waiting; an opcode that is not implemented, with a masked
IRQ that ends a wait. -/
theorem witness_StepsWithout :
    let idle : Cpu := { stopped := true, nmiPending := true, irqPending := true, waiting := true }
    let nmi : Cpu := { nmiPending := true, irqPending := true }
    let irq : Cpu := { irqPending := true, p := { i := false } }
    let wait : Cpu := { waiting := true }
    let miss : State := { cpu := { waiting := true, irqPending := true }, params := { unimplemented := [0x00] } }
    idle.stopped = true ∧ (nmi.stopped = false ∧ nmi.nmiPending = true) ∧
    (irq.stopped = false ∧ irq.nmiPending = false ∧ irq.irqPending = true ∧ irq.p.i = false) ∧
    (wait.stopped = false ∧ wait.nmiPending = false ∧ wait.irqPending = false ∧ wait.waiting = true) ∧
    (miss.cpu.stopped = false ∧ miss.cpu.nmiPending = false ∧ (miss.cpu.irqPending = true → miss.cpu.p.i = true) ∧
      (miss.cpu.waiting = true → miss.cpu.irqPending = true) ∧
      (({ miss.bus with dmaBytes := 0 } : Bus).rd8 (addrOf miss.cpu.pb miss.cpu.pc)).1 ∈ miss.params.unimplemented) := by
  decide +kernel

theorem witness_Loads :
    readShape (.ldaSriy 0xFF) = some (.lda, .mem (.sriy 0xFF)) ∧ readShape (.ldxImm 0xFFFF) = some (.ldx, .imm 0xFFFF) ∧
    readShape (.ldyAbsx 0xFFFF) = some (.ldy, .mem (.absx 0xFFFF)) := ⟨rfl, rfl, rfl⟩

theorem witness_LogicalOperations :
    readShape (.andImm 0xFF) = some (.and, .imm 0xFF) ∧ readShape (.oraDpind 0xFF) = some (.ora, .mem (.dpind 0xFF)) ∧
    readShape (.eorLong 0xFFFFFF) = some (.eor, .mem (.long 0xFFFFFF)) := ⟨rfl, rfl, rfl⟩

theorem witness_AddAndSubtract :
    readShape (.adcDpx 0xFF) = some (.adc, .mem (.dpx 0xFF)) ∧ readShape (.sbcLongx 0xFFFFFF) = some (.sbc, .mem (.longx 0xFFFFFF)) :=
  ⟨rfl, rfl⟩

theorem witness_BinaryAdder :
    (0x00FF : Word) &&& Width.w8.ones = 0x00FF ∧ (0x0080 : Word) &&& Width.w8.ones = 0x0080 ∧
    (0xFFFF : Word) &&& Width.w16.ones = 0xFFFF := by
  decide +kernel

theorem witness_DecimalAdder : ValidBcd .w8 0x0099 ∧ ValidBcd .w8 0x0000 ∧ ValidBcd .w16 0x9999 := by
  unfold ValidBcd
  decide +kernel

theorem witness_Compares :
    readShape (.cmpSr 0xFF) = some (.cmp, .mem (.sr 0xFF)) ∧ readShape (.cpxDp 0xFF) = some (.cpx, .mem (.dp 0xFF)) ∧
    readShape (.cpyImm 0xFF) = some (.cpy, .imm 0xFF) := ⟨rfl, rfl, rfl⟩

theorem witness_BitTests :
    readShape (.bitAbsx 0xFFFF) = some (.bit, .mem (.absx 0xFFFF)) ∧ readShape (.bitImm 0xFF) = some (.bit, .imm 0xFF) :=
  ⟨rfl, rfl⟩

/-- A load, and a byte whose read is quiet. -/
theorem witness_ReadingFrame :
    readShape (.ldaAbs 0x2139) = some (.lda, .mem (.abs 0x2139)) ∧ (State.reset.bus.target 0x001FFF).quiet = true ∧
    (State.reset.bus.target 0x002100).quiet = true ∧ (State.reset.bus.target 0x002139).quiet = false := by
  decide +kernel

theorem witness_Stores :
    storeShape (.staSriy 0xFF) = some (.a, .sriy 0xFF) ∧ storeShape (.stxDpy 0xFF) = some (.x, .dpy 0xFF) ∧
    storeShape (.styDpx 0xFF) = some (.y, .dpx 0xFF) ∧ storeShape (.stzAbsx 0xFFFF) = some (.zero, .absx 0xFFFF) :=
  ⟨rfl, rfl, rfl, rfl⟩

theorem witness_ReadModifyWrite :
    ([(.incDp 1, .inc, .dp 1), (.decAbs 1, .dec, .abs 1), (.tsbDp 1, .tsb, .dp 1), (.trbAbs 1, .trb, .abs 1),
      (.aslDpx 1, .asl, .dpx 1), (.lsrAbsx 1, .lsr, .absx 1), (.rolDp 1, .rol, .dp 1), (.rorAbs 1, .ror, .abs 1)] :
      List (Instr × RmwOp × Mode)).all (fun q => rmwShape q.1 = some q.2) = true := by
  decide +kernel

/-- A 16-bit store to the last two bytes below the registers, beside the byte before them; and a read-modify-write. -/
theorem witness_StoreFrame :
    let s : State := { cpu := cpuAt false 0x00 }
    s.bus.MemOk ∧ storeShape (.staAbs 0x1FFE) = some (.a, .abs 0x1FFE) ∧
      (widthOf (if Stored.a = .x ∨ Stored.a = .y then s.cpu.p.x else s.cpu.p.m)).bytes = 2 ∧
      rmwShape (.incAbs 0x1FFE) = some (.inc, .abs 0x1FFE) ∧ (widthOf s.cpu.p.m).bytes = 2 ∧
      (∀ k < 2, (s.bus.target ((effAddr (.abs 0x1FFE) s).1.byteAddr k)).isReg = false) ∧
      (s.bus.target 0x001FFD).quiet = true ∧
      ∀ k < 2, s.bus.target 0x001FFD ≠ s.bus.target ((effAddr (.abs 0x1FFE) s).1.byteAddr k) :=
  ⟨noCart_memOk, rfl, rfl, rfl, rfl, by decide +kernel, by decide +kernel, by decide +kernel⟩

theorem witness_RegisterWriteFrame :
    ({} : Bus).MemOk ∧ ({} : Bus).target 0x002000 = .reg 0x2000 ∧ ({} : Bus).target 0xBF5FFF = .reg 0x5FFF ∧
    ({} : Bus).target 0x00420B = .reg 0x420B :=
  ⟨noCart_memOk, by decide +kernel, by decide +kernel, by decide +kernel⟩

/-- Emulation mode at the wrap of page 1, and native mode at the top of low work-RAM. -/
theorem witness_PushThenPull :
    (({ cpuAt true 0x34 with s := 0x0100 } : Cpu).ModeOk ∧ ∀ k < 2, (slotDown true 0x0100 k).toNat < 0x2000) ∧
    (({ cpuAt false 0x00 with s := 0x1FFF } : Cpu).ModeOk ∧ ∀ k < 2, (slotDown false 0x1FFF k).toNat < 0x2000) ∧
    ({} : Bus).MemOk ∧
    ((Instr.php, Instr.plp) ∈ [(Instr.pha, Instr.pla), (.phx, .plx), (.phy, .ply), (.phb, .plb), (.phd, .pld), (.php, .plp)]) :=
  ⟨⟨by constructor <;> decide +kernel, by decide +kernel⟩, ⟨by constructor <;> decide +kernel, by decide +kernel⟩,
    noCart_memOk, by decide +kernel⟩

/-- Into native mode, and C = E in both modes. -/
theorem witness_ExchangeCarryEmulation :
    (cpuAt true 0x34).ModeOk ∧ (cpuAt true 0x34).p.c = false ∧ (cpuAt true 0x35).ModeOk ∧ (cpuAt true 0x35).p.c = (cpuAt true 0x35).e ∧
    (cpuAt false 0x00).ModeOk ∧ (cpuAt false 0x00).p.c = (cpuAt false 0x00).e :=
  ⟨emulation_modeOk, rfl, by constructor <;> decide +kernel, rfl, native_modeOk, rfl⟩

theorem witness_ReturnUndoesEntry :
    (cpuAt true 0x34).ModeOk ∧ (∀ k < 4, (slotDown true 0x01FF k).toNat < 0x2000) ∧
    ({ cpuAt false 0x00 with s := 0x1FFF } : Cpu).ModeOk ∧ (∀ k < 4, (slotDown false 0x1FFF k).toNat < 0x2000) ∧ ({} : Bus).MemOk :=
  ⟨emulation_modeOk, by decide +kernel, by constructor <;> decide +kernel, by decide +kernel, noCart_memOk⟩

/-- Legal modes and a step: emulation mode, and XCE with C = 0 out of it. -/
theorem witness_ModesStayLegal :
    (cpuAt true 0x34).ModeOk ∧ (∃ t, step (start none (cpuAt true 0x34) [] [0xFB]) = .next t ∧ t.cpu.e = false) :=
  ⟨emulation_modeOk, _, rfl, rfl⟩

theorem witness_MemoriesStayWellFormed :
    ({} : Bus).MemOk ∧ ∃ t, step { cpu := { stopped := true } } = .next t := ⟨noCart_memOk, _, rfl⟩

theorem witness_ResetState :
    (saveCart .lowMapped).mapping = .lowMapped ∧ (saveCart .highMapped).mapping = .highMapped := ⟨rfl, rfl⟩

theorem witness_EmulationFlagWriters (s : State) : (∃ t, exec .xce s = .next t) ∧ ∃ t, exec .nop s = .next t :=
  ⟨⟨_, rfl⟩, _, rfl⟩

/-- Each of the nine is changed by an instruction the rules name. -/
theorem witness_WhoWritesWhat :
    let s : State := { cpu := cpuAt false 0x01 }
    let changes (i : Instr) (f : Cpu → Bool) : Bool := match exec i s with | .next t => f t.cpu | _ => false
    changes (.jmlLong 0x7E0000) (fun c => c.pb != s.cpu.pb) = true ∧
    changes (.mvnBm 0x7E 0x7F) (fun c => c.db != s.cpu.db) = true ∧
    changes (.sepImm 0x40) (fun c => c.p.v != s.cpu.p.v) = true ∧
    changes .xce (fun c => c.p.m != s.cpu.p.m && c.p.x != s.cpu.p.x) = true ∧
    changes .sed (fun c => c.p.d != s.cpu.p.d) = true ∧
    changes (.brkSig 0) (fun c => c.p.i != s.cpu.p.i) = true ∧
    changes .lsrAcc (fun c => c.p.c != s.cpu.p.c) = true := by
  decide +kernel

theorem witness_WhoWritesWhat_d :
    let s : State := { cpu := { cpuAt false 0x00 with a := 0x0001 } }
    ∃ t, exec .tcd s = .next t ∧ t.cpu.d ≠ s.cpu.d := ⟨_, rfl, by decide +kernel⟩

/-- The last byte of the save-RAM, a ROM byte, a step and a tick. -/
theorem witness_CartridgeIsReadOnly :
    (∃ t, step { cpu := { waiting := true } } = .next t) ∧ (∃ t, tick { sched := { running := false } } = .next t) ∧
    ({ cart := some vrom } : Bus).target 0xFFFFFF = .rom 0x3FFFFF ∧
    ({ cart := some (saveCart .lowMapped) } : Bus).target 0x701FFF = .sram 0x1FFF ∧
    ({ cart := some (saveCart .lowMapped) } : Bus).MemOk ∧ 0x1FFF < ({ cart := some (saveCart .lowMapped) } : Bus).saveRamSize ∧
    ({ cart := some (saveCart .highMapped) } : Bus).target 0x207FFF = .sram 0x1FFF :=
  ⟨⟨_, rfl⟩, ⟨_, rfl⟩, by decide +kernel, by decide +kernel, saveCart_memOk _, by decide +kernel, by decide +kernel⟩

/-- The mirror, a ROM byte, unmapped addresses, work-RAM; the last byte of the save-RAM, the first one past it, none before a load. -/
theorem witness_BusTargets :
    SystemBank 0x3F ∧ SystemBank 0xBF ∧ (0x1FFF : Nat) < 0x2000 ∧ ({} : Bus).target 0xC00000 = .rom 0x200000 ∧
    ({} : Bus).target 0x006000 = .unmapped ∧ ({} : Bus).target 0xBF7FFF = .unmapped ∧ ({} : Bus).MemOk ∧
    ({} : Bus).target 0x7FFFFF = .wram 0x1FFFF ∧
    (let b : Bus := { cart := some (saveCart .lowMapped) }
     b.target 0x701FFF = .sram 0x1FFF ∧ 0x1FFF < b.saveRamSize ∧ b.target 0x702000 = .sram 0x2000 ∧ b.saveRamSize ≤ 0x2000) ∧
    ({} : Bus).target 0x700000 = .sram 0 ∧ ({} : Bus).saveRamSize ≤ 0 :=
  ⟨by decide, by decide, by decide, by decide +kernel, by decide +kernel, by decide +kernel, noCart_memOk, by decide +kernel,
    by decide +kernel, by decide +kernel, by decide +kernel⟩

theorem witness_DisplayAndPalettePorts :
    [0x2100, 0x2105, 0x2115, 0x2121, 0x2122].all (fun o => ({} : Bus).target (BitVec.ofNat 24 o) = .reg o) = true := by
  decide +kernel

theorem witness_LayerVramAudioPorts :
    [0x2107, 0x2108, 0x2109, 0x210A, 0x210B, 0x210C, 0x2116, 0x2117, 0x2118, 0x2119, 0x212C, 0x212D, 0x2140, 0x2141, 0x2142,
      0x2143].all (fun o => ({} : Bus).target (BitVec.ofNat 24 o) = .reg o) = true := by
  decide +kernel

theorem witness_RegisterReads :
    [0x2139, 0x213A, 0x213B, 0x2140, 0x2141, 0x2142, 0x2143, 0x4210, 0x4212, 0x4016, 0x4017, 0x4218, 0x421F, 0x2000, 0x4217, 0x4220,
      0x5FFF].all (fun o => ({} : Bus).target (BitVec.ofNat 24 o) = .reg o) = true := by
  decide +kernel

theorem witness_PaletteRoundTrip : ({} : Bus).MemOk := noCart_memOk

/-- A to B on channel 7 in mode 1 at the wrap of the B-bus: bytes 1 and 2 are the last of their registers, byte 0 is not; a byte to an
audio port; B to A on channel 0, moving and fixed, into work-RAM, with a byte beside the transfer; and the store that starts DMA. -/
theorem witness_DmaTransfers :
    let toB : Channel := (writes [(0x4370, 0x01), (0x4372, 0xFF), (0x4375, 0x7E), (0x4378, 3)] {}).dmaChannel .document 7
    let audio : Channel := (writes [(0x4372, 0x43), (0x4378, 1)] {}).dmaChannel .document 7
    let toA : Channel := (writes [(0x4300, 0x80), (0x4305, 0x7F), (0x4308, 2)] {}).dmaChannel .document 0
    let fixed : Channel := (writes [(0x4300, 0x88), (0x4305, 0x7F), (0x4308, 2)] {}).dmaChannel .document 0
    ({} : Bus).MemOk ∧ (toB.toA = false ∧ toB.size.toNat = 3) ∧
    (dmaReg toB 0 = 0x21FF ∧ dmaReg toB 1 = 0x2100 ∧ dmaReg toB 2 = 0x21FF) ∧
    (audio.toA = false ∧ audio.size.toNat = 1 ∧ dmaReg audio 0 = 0x2143) ∧
    (toA.toA = true ∧ toA.fixed = false ∧ toA.size.toNat = 2 ∧ ({} : Bus).holdsRam (({} : Bus).target (dmaAddr toA 1)) = true) ∧
    (∀ i < 2, ({} : Bus).target (dmaAddr toA i) ≠ .wram 0x10002) ∧
    (fixed.toA = true ∧ fixed.fixed = true ∧ ({} : Bus).holdsRam (({} : Bus).target (dmaAddr fixed 1)) = true) ∧
    ({} : Bus).target 0x00420B = .reg 0x420B :=
  ⟨noCart_memOk, by decide +kernel, by decide +kernel, by decide +kernel, by decide +kernel, by decide +kernel, by decide +kernel,
    by decide +kernel⟩

theorem witness_PixelIsLastDrawn : 0 < 224 ∧ 223 < 224 ∧ 255 < 256 := by decide

theorem witness_VerticalBlankEntry :
    let s : State := { sched := { master := 305536 } }
    s.bus.inVblank = false ∧ 224 * 1364 ≤ s.sched.master := by
  decide +kernel

theorem witness_RunReturns :
    State.reset.params.Ok ∧ State.reset.bus.inVblank = false ∧
    ({ bus := { inVblank := true } } : State).params.Ok ∧ ({ bus := { inVblank := true } } : State).bus.inVblank = true := by
  decide +kernel

/-- An image of `n` bytes 0x20. -/
def blankImage (n : Nat) : List Byte := List.replicate n 0x20

theorem blankImage_length (n : Nat) : (blankImage n).length = n := List.length_replicate

theorem blankImage_byte {n k : Nat} (hk : k < n) : imageByte (blankImage n) k = 0x20 := by
  simp [imageByte, blankImage, hk]

theorem blankImage_header {n : Nat} (hn : 0x8000 ≤ n) :
    readHeader .document (blankImage n) 0x7FB0 =
      { title := List.replicate 21 0x20, map := 0x20, romType := 0x20, romSizeCode := 0x20, sramCode := 0x20,
        checksum := 0x2020, complement := 0x2020 } := by
  have hb : ∀ k, k < 0x8000 → imageByte (blankImage n) k = 0x20 := fun k hk => blankImage_byte (by omega)
  simp [readHeader, headerOffsets, hb, List.range_succ]
  decide +kernel

/-- Such an image of less than 64 KiB, not 512 bytes over a kibibyte, classifies as low-mapped: its map byte is the low one. -/
theorem blankImage_classify {n : Nat} (hn : 0x8000 ≤ n) (h2 : n < 0x10000) :
    classify .document (blankImage n) = some .lowMapped := by
  have hl : candidateScore .document (blankImage n) .lowMapped = 2 := by
    simp only [candidateScore, headerBase, blankImage_header hn, reduceCtorEq, false_and, if_false]
    decide +kernel
  have hh : candidateScore .document (blankImage n) .highMapped = 0 := by
    simp [candidateScore, blankImage_length, h2]
  simp [classify, hl, hh]

theorem blankImage_strip {n : Nat} (h : n % 1024 ≠ 512) : stripCopier (blankImage n) = blankImage n := by
  simp [stripCopier, blankImage_length, h]

theorem blankImage_loads {n : Nat} (hn : 0x8000 ≤ n) (h2 : n < 0x10000) (h3 : n % 1024 ≠ 512) :
    ∃ t, loadCartridge (blankImage n) State.reset = .ok t := by
  refine ⟨insertCartridge (buildCartridge .document (blankImage n) .lowMapped) State.reset, ?_⟩
  have h4 : ¬ n < 0x8000 := by omega
  simp only [loadCartridge, blankImage_strip h3, blankImage_length, h4, if_false, State.reset, blankImage_classify hn h2]

/-- The shortest image that loads, and one byte less. -/
theorem witness_LoadCartridge :
    (∃ t, loadCartridge (blankImage 0x8000) State.reset = .ok t) ∧ (blankImage 0x7FFF).length < 0x8000 :=
  ⟨blankImage_loads (Nat.le_refl _) (by decide) (by decide), (blankImage_length _).trans_lt (by decide)⟩

theorem witness_SnapshotRoundTrip :
    ({} : State).bus.cart = State.reset.bus.cart ∧
    fingerprint { bus := { cart := some vrom } } ≠ fingerprint State.reset := by
  decide +kernel

end Sys2Proof.Tests
end

/-! PROOFS. Which meaning an instruction of a shape has; the opcode of a decoded instruction; the cases of one step; and the writers
of the emulation flag (10_state.md R38). -/

namespace Sys2Proof.Machine

/-! ### The meaning of a shape -/

/-- What a reading instruction does with its operand (`readShape`). No form of BIT reads the accumulator. -/
def ReadOp.meaning : ReadOp → Src → State → State
  | .ora, src => opLogic (· ||| ·) src
  | .and, src => opLogic (· &&& ·) src
  | .eor, src => opLogic (· ^^^ ·) src
  | .adc, src => opAdc src
  | .lda, src => opLda src
  | .cmp, src => opCmp src
  | .sbc, src => opSbc src
  | .ldx, src => opLdx src
  | .ldy, src => opLdy src
  | .cpx, src => opCpx src
  | .cpy, src => opCpy src
  | .bit, .imm c => opBitImm c
  | .bit, .mem m => opBitMem m
  | .bit, .acc => id

/-- What a store does at its mode (`storeShape`). -/
def Stored.meaning : Stored → Mode → State → State
  | .a => opSta
  | .x => opStx
  | .y => opSty
  | .zero => opStz

/-- What a read-modify-write instruction does at its mode (`rmwShape`). -/
def RmwOp.meaning : RmwOp → Mode → State → State
  | .asl => opShiftMem .asl
  | .lsr => opShiftMem .lsr
  | .rol => opShiftMem .rol
  | .ror => opShiftMem .ror
  | .inc => opBumpMem 1
  | .dec => opBumpMem (-1)
  | .tsb => opTsb
  | .trb => opTrb

section
variable {i : Instr} (s : State)

theorem exec_of_readShape {op : ReadOp} {src : Src} (h : readShape i = some (op, src)) :
    exec i s = .next (op.meaning src s) := by
  cases i <;> cases h <;> rfl

theorem exec_of_storeShape {r : Stored} {m : Mode} (h : storeShape i = some (r, m)) :
    exec i s = .next (r.meaning m s) := by
  cases i <;> cases h <;> rfl

theorem exec_of_rmwShape {op : RmwOp} {m : Mode} (h : rmwShape i = some (op, m)) :
    exec i s = .next (op.meaning m s) := by
  cases i <;> cases h <;> rfl

end

/-! ### The opcode of a decoded instruction -/

/-- Cell `c` of row `r` builds an instruction of opcode `16 r + c`, whatever its operand (30_encoding.md R205). -/
theorem opcodeRow_opcode (v : Addr) : ∀ r < 16,
    (opcodeRow r).map (fun f => (f.build v).opcode) = (List.range 16).map fun c => BitVec.ofNat 8 (16 * r + c) := by
  intro r hr
  interval_cases r <;> rfl

/-- Decoding keeps the opcode byte. -/
@[simp] theorem instrOf_opcode (op : Byte) (v : Addr) : (instrOf op v).opcode = op := by
  have hr : op.toNat / 16 < 16 := by have := op.isLt; omega
  have hc : op.toNat % 16 < 16 := Nat.mod_lt _ (by decide)
  calc (instrOf op v).opcode
      = ((opcodeRow (op.toNat / 16)).map fun f => (f.build v).opcode).getD (op.toNat % 16)
          ((Form.op0 .nop).build v).opcode := by rw [List.getD_map]; rfl
    _ = BitVec.ofNat 8 (16 * (op.toNat / 16) + op.toNat % 16) := by
        rw [opcodeRow_opcode v _ hr]
        simp [List.getD, hc]
    _ = op := by rw [Nat.div_add_mod]; simp

theorem opcode_of_instrOf_eq {op : Byte} {v : Addr} {i : Instr} (h : instrOf op v = i) : op = i.opcode := by
  rw [← h, instrOf_opcode]

/-! ### The cases of one step (30_encoding.md R212) -/

theorem step_cases {s t : State} (h : step s = .next t) :
    (s.cpu.stopped = true ∧ t = idleStep s) ∨
    (s.cpu.stopped = false ∧ ∃ k, pendingInterrupt s.cpu = some k ∧ t = interruptStep k s) ∨
    (s.cpu.stopped = false ∧ pendingInterrupt s.cpu = none ∧ waitsOn s.cpu = true ∧ t = idleStep s) ∨
    (s.cpu.stopped = false ∧ pendingInterrupt s.cpu = none ∧ waitsOn s.cpu = false ∧ runInstruction s = .next t) := by
  unfold step at h
  split at h
  case isTrue hs =>
    cases h
    exact .inl ⟨hs, rfl⟩
  case isFalse hs =>
    have hs := Bool.eq_false_of_not_eq_true hs
    split at h
    case h_1 k hk =>
      cases h
      exact .inr (.inl ⟨hs, k, hk, rfl⟩)
    case h_2 hk =>
      split at h
      case isTrue hw =>
        cases h
        exact .inr (.inr (.inl ⟨hs, hk, hw, rfl⟩))
      case isFalse hw => exact .inr (.inr (.inr ⟨hs, hk, Bool.eq_false_of_not_eq_true hw, h⟩))

theorem finish_eq_next {base : Nat} {r : Result} {t : State} :
    finish base r = .next t ↔ ∃ u, r = .next u ∧ t = finishStep base u := by
  cases r <;> simp [finish, eq_comm]

theorem runInstruction_cases {s t : State} (h : runInstruction s = .next t) :
    let op := fetch8 (beginStep s)
    let f := fetchOperands op.1 op.2
    (op.1 ∈ s.params.unimplemented ∧ t = decodeMiss op.2) ∨
    (op.1 ∉ s.params.unimplemented ∧ ∃ u, exec f.1 f.2 = .next u ∧ t = finishStep (baseCycles op.1) u) := by
  unfold runInstruction at h
  simp only at h
  split at h
  · cases h
    exact .inl ⟨‹_›, rfl⟩
  · exact .inr ⟨‹_›, finish_eq_next.mp h⟩

/-! ### What leaves the emulation flag alone -/

section
variable (s : State)

@[simp] theorem effAddr_cpu (m : Mode) : (effAddr m s).2.cpu = s.cpu := by rw [effAddr_state]

@[simp] theorem readEa_cpu (e : Ea) (w : Width) : (readEa e w s).2.cpu = s.cpu := by rw [readEa_eq, readAt_state]

@[simp] theorem writeEa_cpu (e : Ea) (w : Width) (v : Word) : (writeEa e w v s).cpu = s.cpu := by rw [writeEa_eq]

@[simp] theorem pull8_e : (pull8 s).2.cpu.e = s.cpu.e := rfl

@[simp] theorem pull16_e : (pull16 s).2.cpu.e = s.cpu.e := rfl

@[simp] theorem pushW_e (w : Width) (v : Word) : (pushW w v s).cpu.e = s.cpu.e := by cases w <;> rfl

@[simp] theorem pullW_e (w : Width) : (pullW w s).2.cpu.e = s.cpu.e := by cases w <;> rfl

@[simp] theorem fetchBytes_e (n : Nat) : (fetchBytes n s).2.cpu.e = s.cpu.e := by
  induction n generalizing s with
  | zero => rfl
  | succ n ih => exact ih (fetch8 s).2

@[simp] theorem raiseInterrupt_e (k : Interrupt) : (raiseInterrupt k s).cpu.e = s.cpu.e := by
  rw [raiseInterrupt_eq]
  rfl

@[simp] theorem returnFromInterrupt_e : (returnFromInterrupt s).cpu.e = s.cpu.e := by
  unfold returnFromInterrupt
  simp only
  split <;> rfl

@[simp] theorem opBranch_e (c : Bool) (r : Byte) : (opBranch c r s).cpu.e = s.cpu.e := by
  cases c <;> rfl

@[simp] theorem opBlockMove_e (v : Word) (dst src : Byte) : (opBlockMove v dst src s).cpu.e = s.cpu.e := by
  unfold opBlockMove
  simp only
  split <;> rfl

theorem readModifyWrite_e (m : Mode) (w : Width) (f : Word → Word) {g : Word → State → State}
    (hg : ∀ v u, (g v u).cpu.e = u.cpu.e) : (readModifyWrite m w f g s).cpu.e = s.cpu.e := by
  simp [readModifyWrite, hg]

theorem ReadOp.meaning_e (op : ReadOp) (src : Src) : (op.meaning src s).cpu.e = s.cpu.e := by
  cases op
  case bit =>
    cases src
    case imm c => rfl
    case mem m => simp [meaning, opBitMem]
    case acc => rfl
  case ora | and | eor => simp [meaning, opLogic]
  case adc => simp [meaning, opAdc, setAlu]
  case sbc => simp [meaning, opSbc, setAlu]
  case lda => simp [meaning, opLda]
  case ldx => simp [meaning, opLdx]
  case ldy => simp [meaning, opLdy]
  case cmp => simp [meaning, opCmp, opCompare]
  case cpx => simp [meaning, opCpx, opCompare]
  case cpy => simp [meaning, opCpy, opCompare]

theorem opStore_cpu (m : Mode) (w : Width) (v : Word) : (opStore m w v s).cpu = s.cpu := by simp [opStore]

theorem Stored.meaning_cpu (r : Stored) (m : Mode) : (r.meaning m s).cpu = s.cpu := by
  cases r <;> exact opStore_cpu s m _ _

theorem RmwOp.meaning_e (op : RmwOp) (m : Mode) : (op.meaning m s).cpu.e = s.cpu.e := by
  cases op <;> exact readModifyWrite_e s m _ _ fun _ _ => rfl

/-- Outside the three shapes every instruction but XCE writes E nowhere: most are register updates in a row, the rest branch on a
width, a flag or the mode. -/
theorem exec_e_of_unshaped {i : Instr} (hr : readShape i = none) (hs : storeShape i = none) (hm : rmwShape i = none)
    (hx : i ≠ .xce) : ∃ t, exec i s = .next t ∧ t.cpu.e = s.cpu.e := by
  cases i <;> cases hr <;> cases hs <;> cases hm
  case xce => contradiction
  case brkSig | copSig => exact ⟨_, rfl, raiseInterrupt_e s _⟩
  case rti => exact ⟨_, rfl, returnFromInterrupt_e s⟩
  case bplRel | bmiRel | bvcRel | bvsRel | bccRel | bcsRel | bneRel | beqRel | braRel => exact ⟨_, rfl, opBranch_e s _ _⟩
  case mvnBm | mvpBm => exact ⟨_, rfl, opBlockMove_e s _ _ _⟩
  case pha | phx | phy => exact ⟨_, rfl, pushW_e s _ _⟩
  case pla | plx | ply => exact ⟨_, rfl, pullW_e s _⟩
  all_goals exact ⟨_, rfl, rfl⟩

theorem exec_e_of_ne_xce {i : Instr} (hx : i ≠ .xce) : ∃ t, exec i s = .next t ∧ t.cpu.e = s.cpu.e := by
  cases hr : readShape i with
  | some r => exact ⟨_, exec_of_readShape s hr, r.1.meaning_e s r.2⟩
  | none =>
    cases hs : storeShape i with
    | some r => exact ⟨_, exec_of_storeShape s hs, congrArg Cpu.e (r.1.meaning_cpu s r.2)⟩
    | none =>
      cases hm : rmwShape i with
      | some r => exact ⟨_, exec_of_rmwShape s hm, r.1.meaning_e s r.2⟩
      | none => exact exec_e_of_unshaped s hr hs hm hx

end

/-! ### The writers of the emulation flag (10_state.md R38) -/

theorem exec_e {i : Instr} {s t : State} (h : exec i s = .next t) :
    t.cpu.e = if i = .xce then s.cpu.p.c else s.cpu.e := by
  split
  case isTrue hx =>
    subst hx
    cases h
    rfl
  case isFalse hx =>
    obtain ⟨u, hu, he⟩ := exec_e_of_ne_xce s hx
    cases hu.symm.trans h
    exact he

theorem runInstruction_e {s t : State} (h : runInstruction s = .next t) :
    t.cpu.e = s.cpu.e ∨ (fetch8 (beginStep s)).1 = 0xFB := by
  obtain ⟨-, rfl⟩ | ⟨-, u, hu, rfl⟩ := runInstruction_cases h
  · exact .inl rfl
  · have he := exec_e hu
    split at he
    case isTrue hx => exact .inr (opcode_of_instrOf_eq hx)
    case isFalse => exact .inl (he.trans (fetchBytes_e _ _))

theorem step_e {s t : State} (h : step s = .next t) : t.cpu.e = s.cpu.e ∨ (fetch8 (beginStep s)).1 = 0xFB := by
  obtain ⟨-, rfl⟩ | ⟨-, k, -, rfl⟩ | ⟨-, -, -, rfl⟩ | ⟨-, -, -, hrun⟩ := step_cases h
  · exact .inl rfl
  · exact .inl (raiseInterrupt_e _ k)
  · exact .inl rfl
  · exact runInstruction_e hrun

/-- Settles O46, by the shapes of the instructions (`exec_e`) and the cases of a step (`step_e`). -/
theorem emulationFlagWriters : Obligations.EmulationFlagWriters :=
  ⟨fun _ _ _ h => exec_e h, fun k s => raiseInterrupt_e s k, fun _ _ h => step_e h, fun _ => rfl, rfl⟩

end Sys2Proof.Machine

/-! PROOFS. What a register write does to the bus, and the display and palette ports (20_memory.md R122, R123, R126, R129, R130). -/

namespace Sys2Proof.Machine

/-! ### A register write as a change of the bus (20_memory.md R120) -/

section
variable {b : Bus} {a : Addr} {off : Nat} (lay : Layout) (v : Byte)

/-- Only 0x420B starts DMA: every other register write is its port's. -/
theorem Bus.wr8_eq_writePort (ht : b.target a = .reg off) (hd : off ≠ 0x420B) :
    b.wr8 lay a v = b.writePort off v := by
  simp [Bus.wr8, Bus.writeTarget, Bus.writeReg, ht, hd]

theorem Bus.writePort_eq_ppu (hp : off < 0x2140) (b : Bus) :
    b.writePort off v = { b with regs := Cells.write b.regs (off - 0x2000) v, ppu := b.ppu.writePort off v } := by
  have h0 : off ≠ 0x2140 := by omega
  have h1 : off ≠ 0x2141 := by omega
  have h2 : off ≠ 0x2142 := by omega
  have h3 : off ≠ 0x2143 := by omega
  simp [Bus.writePort, Bus.setReg, h0, h1, h2, h3]

/-- A write below the audio ports changes the flat array and the PPU, and nothing else of the bus. -/
theorem Bus.wr8_eq_ppu (ht : b.target a = .reg off) (hp : off < 0x2140) :
    b.wr8 lay a v = { b with regs := Cells.write b.regs (off - 0x2000) v, ppu := b.ppu.writePort off v } := by
  rw [Bus.wr8_eq_writePort lay v ht (by omega), Bus.writePort_eq_ppu v hp]

end

/-! ### The fields a port takes from its byte -/

theorem ofNat_toNat_mod {n k m : Nat} (hm : m = 2 ^ k) (v : BitVec n) :
    BitVec.ofNat k (v.toNat % m) = v.setWidth k := by
  subst hm
  apply BitVec.eq_of_toNat_eq
  simp

theorem VramStep.ofBits_eq_getD (v : Byte) :
    VramStep.ofBits v = ([.by1, .by32, .by128, .by128] : List VramStep).getD (v.toNat % 4) .by1 := by
  have hlt : v.toNat % 4 < 4 := Nat.mod_lt _ (by decide)
  unfold VramStep.ofBits
  interval_cases v.toNat % 4 <;> rfl

/-- The palette entry of two data bytes: bit 7 of the high byte is dropped (20_memory.md R130). -/
theorem wordOf_setWidth_15 (lo hi : Byte) :
    (wordOf lo hi).setWidth 15 = BitVec.ofNat 15 (hi.toNat % 128 * 256 + lo.toNat) := by
  have hlo := lo.isLt
  apply BitVec.eq_of_toNat_eq
  simp
  omega

/-! ### The ports -/

section
variable (v : Byte) (p : Ppu)

theorem Ppu.writePort_display : p.writePort 0x2100 v =
    { p with forcedBlank := v.getLsbD 7, brightness := BitVec.ofNat 4 (v.toNat % 16) } := by
  rw [ofNat_toNat_mod (m := 16) rfl]
  rfl

theorem Ppu.writePort_bgMode : p.writePort 0x2105 v = { p with
    bgMode := BitVec.ofNat 3 (v.toNat % 8)
    layer1 := { p.layer1 with bigTiles := v.getLsbD 4 }, layer2 := { p.layer2 with bigTiles := v.getLsbD 5 }
    layer3 := { p.layer3 with bigTiles := v.getLsbD 6 }, layer4 := { p.layer4 with bigTiles := v.getLsbD 7 } } := by
  rw [ofNat_toNat_mod (m := 8) rfl]
  rfl

theorem Ppu.writePort_vramMode : p.writePort 0x2115 v = { p with
    vramStep := ([.by1, .by32, .by128, .by128] : List VramStep).getD (v.toNat % 4) .by1
    vramIncHigh := v.getLsbD 7 } := by
  rw [← VramStep.ofBits_eq_getD]
  rfl

theorem Ppu.writePort_cgIndex : p.writePort 0x2121 v = { p with cgIndex := v, cgPhase := false } := rfl

theorem Ppu.writePort_cgData : p.writePort 0x2122 v =
    if p.cgPhase then { p with
      cgram := Cells.write p.cgram p.cgIndex.toNat (BitVec.ofNat 15 (v.toNat % 128 * 256 + p.cgLow.toNat))
      cgIndex := p.cgIndex + 1
      cgPhase := false }
    else { p with cgLow := v, cgPhase := true } := by
  rw [← wordOf_setWidth_15]
  rfl

end

/-- Settles O51: each write is `Bus.wr8_eq_ppu`, with the PPU's part by the port's own rule. -/
theorem displayAndPalettePorts : Obligations.DisplayAndPalettePorts := by
  intro b lay a v
  refine ⟨fun h => ?_, fun h => ?_, fun h => ?_, fun h => ?_, fun h => ?_⟩
  · rw [Bus.wr8_eq_ppu lay v h (by decide), Ppu.writePort_display]
  · rw [Bus.wr8_eq_ppu lay v h (by decide), Ppu.writePort_bgMode]
  · rw [Bus.wr8_eq_ppu lay v h (by decide), Ppu.writePort_vramMode]
  · rw [Bus.wr8_eq_ppu lay v h (by decide), Ppu.writePort_cgIndex]
  · rw [Bus.wr8_eq_ppu lay v h (by decide), Ppu.writePort_cgData]

end Sys2Proof.Machine

/-! PROOFS. The loads and the stores: the opcode of a reading or storing form, and each meaning as the next state its rule names
(40_addressing_load_store.md R270-R276). -/

namespace Sys2Proof.Machine

/-! ### The opcode of a shape (30_encoding.md R205) -/

section
variable {i : Instr}

/-- The `Encoding` line of a reading instruction's rule gives the opcode the encoder writes. -/
theorem readOpcode_of_readShape {op : ReadOp} {src : Src} (h : readShape i = some (op, src)) :
    readOpcode op src = some i.opcode := by
  cases i <;> cases h <;> rfl

/-- The `Encoding` line of a store's rule gives the opcode the encoder writes. -/
theorem storeOpcode_of_storeShape {r : Stored} {m : Mode} (h : storeShape i = some (r, m)) :
    storeOpcode r m = some i.opcode := by
  cases i <;> cases h <;> rfl

end

/-! ### Loads -/

section
variable (s : State)

theorem setX_eq (w : Width) (v : Word) : setX w v s = { s with cpu := { s.cpu with x := v &&& w.ones } } := by
  rw [← Width.trunc_eq_and]
  rfl

theorem setY_eq (w : Width) (v : Word) : setY w v s = { s with cpu := { s.cpu with y := v &&& w.ones } } := by
  rw [← Width.trunc_eq_and]
  rfl

theorem setNZ_eq (w : Width) (v : Word) : setNZ w v s = { s with cpu := { s.cpu with p := nzOf w v s.cpu.p } } := by
  rw [← setNZ_eq_nzOf]
  rfl

variable (src : Src)

theorem opLda_eq :
    let w := widthOf s.cpu.p.m
    let r := operand src w s
    opLda src s = { s with
      bus := r.2.bus
      cpu := { s.cpu with a := spliceA w r.1 s.cpu.a, p := nzOf w r.1 s.cpu.p } } := by
  simp only [opLda, wM, setA_eq, setNZ_eq]
  rw [operand_state]

theorem opLdx_eq :
    let w := widthOf s.cpu.p.x
    let r := operand src w s
    opLdx src s = { s with
      bus := r.2.bus
      cpu := { s.cpu with x := r.1 &&& w.ones, p := nzOf w r.1 s.cpu.p } } := by
  simp only [opLdx, wX, setX_eq, setNZ_eq]
  rw [operand_state]

theorem opLdy_eq :
    let w := widthOf s.cpu.p.x
    let r := operand src w s
    opLdy src s = { s with
      bus := r.2.bus
      cpu := { s.cpu with y := r.1 &&& w.ones, p := nzOf w r.1 s.cpu.p } } := by
  simp only [opLdy, wX, setY_eq, setNZ_eq]
  rw [operand_state]

end

/-- Settles O10: a form's opcode is read off its shape, and its meaning is `opLda_eq`, `opLdx_eq` or `opLdy_eq`. -/
theorem loads : Obligations.Loads := by
  intro i src s
  refine ⟨fun h => ?_, fun h => ?_, fun h => ?_⟩
  · exact ⟨readOpcode_of_readShape h, (exec_of_readShape s h).trans (congrArg _ (opLda_eq s src))⟩
  · exact ⟨readOpcode_of_readShape h, (exec_of_readShape s h).trans (congrArg _ (opLdx_eq s src))⟩
  · exact ⟨readOpcode_of_readShape h, (exec_of_readShape s h).trans (congrArg _ (opLdy_eq s src))⟩

/-! ### Stores -/

/-- An 8-bit store takes the low byte of its value, so cutting the value to the width first changes nothing. -/
theorem storeAt_and_ones (e : Ea) (w : Width) (v : Word) (s : State) :
    storeAt e w (v &&& w.ones) s = storeAt e w v s := by
  rw [← Width.trunc_eq_and]
  cases w
  case w8 => cases e <;> simp [storeAt, Width.trunc]
  case w16 => rfl

/-- A store changes the bus alone: the pointer reads of its mode, then the bytes of the value. -/
theorem opStore_eq (m : Mode) (w : Width) (v : Word) (s : State) :
    let e := effAddr m s
    opStore m w v s = { s with bus := storeAt e.1 w (v &&& w.ones) e.2 } := by
  simp only [opStore, writeEa_eq, storeAt_and_ones]
  rw [effAddr_state]

/-- Settles O18: a form's opcode is read off its shape, and each of the four meanings is a store (`opStore_eq`). -/
theorem stores : Obligations.Stores := by
  intro i m s
  refine ⟨fun h => ?_, fun h => ?_, fun h => ?_, fun h => ?_⟩
  all_goals exact ⟨storeOpcode_of_storeShape h, (exec_of_storeShape s h).trans (congrArg _ (opStore_eq m _ _ s))⟩

end Sys2Proof.Machine

/-! PROOFS. The transfers at the width of their destination and XBA, each as the next state its rule names (41_transfer_exchange.md
R301-R307, R313). -/

namespace Sys2Proof.Machine

/-! ### Transfers -/

/-- `SetA(v, w)` takes no more of its value than the width, so cutting the value first changes nothing. -/
theorem spliceA_and_ones (w : Width) (v a : Word) : spliceA w (v &&& w.ones) a = spliceA w v a := by
  rw [← Width.trunc_eq_and]
  cases w
  case w8 => simp only [← spliceA_eq, Width.trunc, lowByte_zext]
  case w16 => rfl

section
variable (v : Word) (s : State)

theorem transferToA_eq :
    let w := widthOf s.cpu.p.m
    transferToA v s = { s with cpu := { s.cpu with a := spliceA w v s.cpu.a, p := nzOf w (v &&& w.ones) s.cpu.p } } := by
  simp only [transferToA, wM, setA_eq, setNZ_eq, Width.trunc_eq_and, spliceA_and_ones]

theorem transferToX_eq :
    let w := widthOf s.cpu.p.x
    transferToX v s = { s with cpu := { s.cpu with x := v &&& w.ones, p := nzOf w (v &&& w.ones) s.cpu.p } } := by
  simp only [transferToX, wX, setX_eq, setNZ_eq, ← Width.trunc_eq_and, Width.trunc_trunc]

theorem transferToY_eq :
    let w := widthOf s.cpu.p.x
    transferToY v s = { s with cpu := { s.cpu with y := v &&& w.ones, p := nzOf w (v &&& w.ones) s.cpu.p } } := by
  simp only [transferToY, wX, setY_eq, setNZ_eq, ← Width.trunc_eq_and, Width.trunc_trunc]

end

/-! ### The exchange of A's bytes -/

theorem highByte_eq_shift (v : Word) : zext (highByte v) = v >>> 8 := by
  apply BitVec.eq_of_toNat_eq
  simp [Nat.shiftRight_eq_div_pow]

/-- The bytes of a word put together the other way round. -/
theorem wordOf_swapped (v : Word) : wordOf (highByte v) (lowByte v) = ((v &&& 0x00FF) <<< 8) ||| (v >>> 8) := by
  rw [wordOf_eq_or, lowByte_eq_and, highByte_eq_shift]

theorem execXba_eq (s : State) :
    let swapped := ((s.cpu.a &&& 0x00FF) <<< 8) ||| (s.cpu.a >>> 8)
    execXba s = .next { s with cpu := { s.cpu with a := swapped, p := nzOf .w8 (swapped &&& 0x00FF) s.cpu.p } } := by
  intro swapped
  have hw : wordOf (highByte s.cpu.a) (lowByte s.cpu.a) = swapped := wordOf_swapped s.cpu.a
  have hlow : zext (highByte s.cpu.a) = swapped &&& 0x00FF := by rw [← hw, ← lowByte_eq_and, lowByte_wordOf]
  simp only [execXba, setA_eq, setNZ_eq, spliceA, hw, hlow]

/-- Settles O24: every transfer is `transferToA`, `transferToX` or `transferToY` of its source, and XBA is `execXba_eq`. -/
theorem widthTransfers : Obligations.WidthTransfers := by
  intro s
  refine ⟨rfl, ?tax, ?tay, ?txa, ?tya, ?txy, ?tyx, ?tsx, execXba_eq s⟩
  case txa | tya => exact congrArg _ (transferToA_eq _ s)
  case tax | tyx | tsx => exact congrArg _ (transferToX_eq _ s)
  case tay | txy => exact congrArg _ (transferToY_eq _ s)

end Sys2Proof.Machine

/-! PROOFS. The compares, the increments and decrements of registers, and the instructions that read memory and write it back, each as
the next state its rule names (42_arithmetic_compare.md R334-R344, 43_logical_bit_shift.md R375, R376, R378-R381). -/

namespace Sys2Proof.Machine

/-! ### Compares -/

theorem Status.compare_eq (w : Width) (a b : Word) (p : Status) :
    p.compare w a b = { nzOf w ((a - b) &&& w.ones) p with c := decide (b.toNat ≤ a.toNat) } := by
  rw [compare, setNZ_eq_nzOf, Width.trunc_eq_and]

/-- A compare reads its operand and writes the status. -/
theorem opCompare_eq (w : Width) (reg : Word) (src : Src) (s : State) :
    let r := operand src w s
    let a := reg &&& w.ones
    opCompare w reg src s = { s with
      bus := r.2.bus
      cpu := { s.cpu with p := { nzOf w ((a - r.1) &&& w.ones) s.cpu.p with c := decide (r.1.toNat ≤ a.toNat) } } } := by
  simp only [opCompare, Status.compare_eq, Width.trunc_eq_and, setP]
  rw [operand_state]

/-- Settles O15: a form's opcode is read off its shape, and each of the three meanings is a compare (`opCompare_eq`). -/
theorem compares : Obligations.Compares := by
  intro i src s
  refine ⟨fun h => ?_, fun h => ?_, fun h => ?_⟩
  all_goals exact ⟨readOpcode_of_readShape h, (exec_of_readShape s h).trans (congrArg _ (opCompare_eq _ _ src s))⟩

/-! ### Increments and decrements of registers -/

/-- A sum cut to a width depends on its terms cut to the width. -/
theorem Width.trunc_trunc_add (w : Width) (v b : Word) : w.trunc (w.trunc v + b) = w.trunc (v + b) := by
  cases w
  case w8 =>
    apply BitVec.eq_of_toNat_eq
    simp [Width.trunc]
  case w16 => rfl

section
variable (by_ : Word) (s : State)

theorem opBumpA_eq :
    let w := widthOf s.cpu.p.m
    let v := ((s.cpu.a &&& w.ones) + by_) &&& w.ones
    opBumpA by_ s = { s with cpu := { s.cpu with a := spliceA w v s.cpu.a, p := nzOf w v s.cpu.p } } := by
  simp only [opBumpA, wM, setA_eq, setNZ_eq, ← Width.trunc_eq_and, Width.trunc_trunc_add]

theorem opBumpX_eq :
    let w := widthOf s.cpu.p.x
    let v := (s.cpu.x + by_) &&& w.ones
    opBumpX by_ s = { s with cpu := { s.cpu with x := v, p := nzOf w v s.cpu.p } } := by
  simp only [opBumpX, wX, setX_eq, setNZ_eq, ← Width.trunc_eq_and, Width.trunc_trunc]

theorem opBumpY_eq :
    let w := widthOf s.cpu.p.x
    let v := (s.cpu.y + by_) &&& w.ones
    opBumpY by_ s = { s with cpu := { s.cpu with y := v, p := nzOf w v s.cpu.p } } := by
  simp only [opBumpY, wX, setY_eq, setNZ_eq, ← Width.trunc_eq_and, Width.trunc_trunc]

end

/-- Settles O22: to count down is to add -1, and each instruction adds to its register (`opBumpA_eq`, `opBumpX_eq`,
`opBumpY_eq`). -/
theorem incrementRegisters : Obligations.IncrementRegisters := by
  intro s
  simp only [sub_eq_add_neg]
  refine ⟨rfl, ?incAcc, ?decAcc, ?inx, ?dex, ?iny, ?dey⟩
  case incAcc | decAcc => exact congrArg _ (opBumpA_eq _ s)
  case inx | dex => exact congrArg _ (opBumpX_eq _ s)
  case iny | dey => exact congrArg _ (opBumpY_eq _ s)

/-! ### Read-modify-write -/

/-- The `Encoding` line of a read-modify-write instruction's rule gives the opcode the encoder writes. -/
theorem rmwOpcode_of_rmwShape {i : Instr} {op : RmwOp} {m : Mode} (h : rmwShape i = some (op, m)) :
    rmwOpcode op m = some i.opcode := by
  cases i <;> cases h <;> rfl

theorem carryBit_eq_shift (c : Bool) (w : Width) : carryBit c (w.bits - 1) = carryWord c <<< (w.bits - 1) := by
  cases c <;> cases w <;> rfl

/-- The model's shift is the rule's `ShiftOp`. -/
theorem Shift.apply_eq_shiftSpec (op : Shift) (v : Word) (c : Bool) (w : Width) : op.apply v c w = shiftSpec op v c w := by
  cases op
  case asl => simp only [apply, shiftSpec, Width.trunc_eq_and, Width.msb_eq]
  case lsr => rfl
  case rol =>
    simp only [apply, shiftSpec, Width.trunc_eq_and, Width.msb_eq]
    rfl
  case ror => simp only [apply, shiftSpec, carryBit_eq_shift]

/-- The complement at a width flips the bits of the width. -/
theorem Width.compl_trunc_eq_xor (w : Width) (v : Word) : w.compl (w.trunc v) = (v &&& w.ones) ^^^ w.ones := by
  rw [compl, trunc_eq_and, trunc_eq_and]
  ext k hk
  cases hv : v[k] <;> cases ho : w.ones[k] <;> simp [hv, ho]

section
variable (s : State)

theorem setZTest_eq (w : Width) (v : Word) :
    setZTest w v s = { s with cpu := { s.cpu with p := { s.cpu.p with z := decide (s.cpu.a &&& w.ones &&& v = 0) } } } := by
  rw [← Width.trunc_eq_and]
  rfl

theorem setShiftFlags_eq (w : Width) (o : Word × Bool) :
    setShiftFlags w o s = { s with cpu := { s.cpu with p := { nzOf w o.1 s.cpu.p with c := o.2 } } } := by
  rw [← setNZ_eq_nzOf]
  rfl

variable (m : Mode)

/-- The flags of a read-modify-write are set in the state whose bus holds the reads and the write. -/
theorem readModifyWrite_eq (w : Width) (f : Word → Word) (g : Word → State → State) :
    let r := operand (.mem m) w s
    readModifyWrite m w f g s = g r.1 { s with bus := storeAt (effAddr m s).1 w (f r.1) r.2 } := by
  intro r
  calc readModifyWrite m w f g s
      = g r.1 (writeEa (effAddr m s).1 w (f r.1) r.2) := rfl
    _ = g r.1 { s with bus := storeAt (effAddr m s).1 w (f r.1) r.2 } := by
        simp only [r, writeEa_eq, operand_cpu, operand_sched, operand_params]

theorem opBumpMem_eq (by_ : Word) :
    let w := widthOf s.cpu.p.m
    let r := operand (.mem m) w s
    let v := (r.1 + by_) &&& w.ones
    opBumpMem by_ m s =
      { s with bus := storeAt (effAddr m s).1 w v r.2, cpu := { s.cpu with p := nzOf w v s.cpu.p } } := by
  simp only [opBumpMem, wM, readModifyWrite_eq, setNZ_eq, Width.trunc_eq_and]

theorem opTsb_eq :
    let w := widthOf s.cpu.p.m
    let r := operand (.mem m) w s
    let a := s.cpu.a &&& w.ones
    opTsb m s = { s with
      bus := storeAt (effAddr m s).1 w (r.1 ||| a) r.2
      cpu := { s.cpu with p := { s.cpu.p with z := decide (a &&& r.1 = 0) } } } := by
  simp only [opTsb, wM, readModifyWrite_eq, setZTest_eq, Width.trunc_eq_and]

theorem opTrb_eq :
    let w := widthOf s.cpu.p.m
    let r := operand (.mem m) w s
    let a := s.cpu.a &&& w.ones
    opTrb m s = { s with
      bus := storeAt (effAddr m s).1 w (r.1 &&& (a ^^^ w.ones)) r.2
      cpu := { s.cpu with p := { s.cpu.p with z := decide (a &&& r.1 = 0) } } } := by
  simp only [opTrb, wM, readModifyWrite_eq, setZTest_eq, Width.compl_trunc_eq_xor]

theorem opShiftMem_eq (op : Shift) :
    let w := widthOf s.cpu.p.m
    let r := operand (.mem m) w s
    let q := shiftSpec op r.1 s.cpu.p.c w
    opShiftMem op m s = { s with
      bus := storeAt (effAddr m s).1 w q.1 r.2
      cpu := { s.cpu with p := { nzOf w q.1 s.cpu.p with c := q.2 } } } := by
  simp only [opShiftMem, wM, readModifyWrite_eq, setShiftFlags_eq, Shift.apply_eq_shiftSpec]

end

/-- Settles O19: a form's opcode is read off its shape, and its meaning is `opBumpMem_eq`, `opTsb_eq`, `opTrb_eq` or
`opShiftMem_eq`. (The model has a function of the obligation's own name.) -/
theorem readModifyWriteInstructions : Obligations.ReadModifyWrite := by
  intro i m s
  simp only [sub_eq_add_neg]
  refine ⟨?inc, ?dec, ?tsb, ?trb, ?asl, ?lsr, ?rol, ?ror⟩
  all_goals
    intro h
    refine ⟨rmwOpcode_of_rmwShape h, (exec_of_rmwShape s h).trans (congrArg _ ?_)⟩
  case inc | dec => exact opBumpMem_eq s m _
  case tsb => exact opTsb_eq s m
  case trb => exact opTrb_eq s m
  case asl | lsr | rol | ror => exact opShiftMem_eq s m _

end Sys2Proof.Machine

/-! PROOFS. AND, ORA and EOR as the next state their rule names (43_logical_bit_shift.md R370-R372). -/

namespace Sys2Proof.Machine

/-- A logical operation reads its operand and writes its result to A, with N and Z. -/
theorem opLogic_eq (f : Word → Word → Word) (src : Src) (s : State) :
    let w := widthOf s.cpu.p.m
    let r := operand src w s
    let v := f (s.cpu.a &&& w.ones) r.1
    opLogic f src s = { s with
      bus := r.2.bus
      cpu := { s.cpu with a := spliceA w v s.cpu.a, p := nzOf w v s.cpu.p } } := by
  simp only [opLogic, wM, setA_eq, setNZ_eq, Width.trunc_eq_and]
  rw [operand_state]

/-- Settles O11: a form's opcode is read off its shape, and each of the three meanings is a logical operation (`opLogic_eq`). -/
theorem logicalOperations : Obligations.LogicalOperations := by
  intro i src s
  refine ⟨fun h => ?_, fun h => ?_, fun h => ?_⟩
  all_goals exact ⟨readOpcode_of_readShape h, (exec_of_readShape s h).trans (congrArg _ (opLogic_eq _ src s))⟩

end Sys2Proof.Machine

/-! PROOFS. The relative branches, BRL, JMP a and JML al as the next state their rule names (44_control_transfer.md R410-R421, R424). -/

namespace Sys2Proof.Machine

/-- Adding a signed offset to PC as a number and wrapping is adding the wrapped offset as a word. -/
theorem ofInt_toNat_add (pc : Word) (k : Int) : BitVec.ofInt 16 (pc.toNat + k) = pc + BitVec.ofInt 16 k := by
  rw [BitVec.ofInt_add, BitVec.ofInt_natCast, BitVec.ofNat_toNat, BitVec.setWidth_eq]

/-- R410's target: the 8-bit offset counts as a signed number. -/
theorem add_sext8_eq_ofInt (pc : Word) (r : Byte) : pc + sext8 r = BitVec.ofInt 16 (pc.toNat + r.toInt) :=
  (ofInt_toNat_add pc r.toInt).symm

/-- The same target for a 16-bit offset, as BRL has it (R420). -/
theorem add_eq_ofInt (pc r : Word) : pc + r = BitVec.ofInt 16 (pc.toNat + r.toInt) := by
  rw [ofInt_toNat_add, BitVec.ofInt_toInt]

theorem addrBank_eq_ofNat (t : Addr) : addrBank t = BitVec.ofNat 8 (t.toNat / 65536) := by
  rw [← addrBank_toNat, BitVec.ofNat_toNat, BitVec.setWidth_eq]

theorem addrOffset_eq_ofNat (t : Addr) : addrOffset t = BitVec.ofNat 16 (t.toNat % 65536) := by
  rw [← addrOffset_toNat, BitVec.ofNat_toNat, BitVec.setWidth_eq]

/-- A branch writes PC alone, and the PC it had when it is not taken. -/
theorem opBranch_eq (taken : Bool) (r : Byte) (s : State) :
    opBranch taken r s = { s with cpu := { s.cpu with
      pc := if taken then BitVec.ofInt 16 (s.cpu.pc.toNat + r.toInt) else s.cpu.pc } } := by
  rw [← add_sext8_eq_ofInt]
  cases taken
  case false => rfl
  case true => rfl

theorem jumpLong_eq (t : Addr) (s : State) :
    jumpLong t s = { s with cpu := { s.cpu with
      pb := BitVec.ofNat 8 (t.toNat / 65536)
      pc := BitVec.ofNat 16 (t.toNat % 65536) } } := by
  rw [← addrBank_eq_ofNat, ← addrOffset_eq_ofNat]
  rfl

/-- Settles O26: the nine short branches are `opBranch_eq` at their conditions, BRL's target is `add_eq_ofInt`, JMP sets PC and JML is
`jumpLong_eq`. -/
theorem branchesAndJumps : Obligations.BranchesAndJumps := by
  intro s r rl a al branch
  have taken (c : Bool) : .next (opBranch c r s) = branch c := congrArg _ (opBranch_eq c r s)
  refine ⟨rfl, taken _, taken _, taken _, taken _, taken _, taken _, taken _, taken _, taken _, ?brl, ?jmp, ?jml⟩
  case brl => exact congrArg _ (congrArg (setPc · s) (add_eq_ofInt s.cpu.pc rl))
  case jmp => rfl
  case jml => exact congrArg _ (jumpLong_eq al s)

end Sys2Proof.Machine

/-! PROOFS. XCE, the instructions of one flag and NOP as the next state their rule names (46_flags_mode_system.md R490-R496, R499,
R500). -/

namespace Sys2Proof.Machine

/-! ### The exchange of C and E -/

/-- C and E exchanged, before EnforceModes (46_flags_mode_system.md R499). -/
def Cpu.exchangeCE (c : Cpu) : Cpu := { c with e := c.p.c, p := { c.p with c := c.e } }

theorem opXce_eq_exchangeCE (s : State) : opXce s = enforceModes { s with cpu := s.cpu.exchangeCE } := rfl

theorem Cpu.exchangeCE_of_carry_eq {c : Cpu} (h : c.p.c = c.e) : c.exchangeCE = c :=
  congrArg₂ (fun e carry => { c with e := e, p := { c.p with c := carry } }) h h.symm

/-- The constraints survive an exchange that does not enter emulation mode from native mode. -/
theorem Cpu.ModeOk.exchangeCE {c : Cpu} (h : c.ModeOk) (hc : c.p.c = true → c.e = true) : c.exchangeCE.ModeOk where
  emulation_m he := h.emulation_m (hc he)
  emulation_x he := h.emulation_x (hc he)
  emulation_s he := h.emulation_s (hc he)
  index_x := h.index_x
  index_y := h.index_y

/-- Such an exchange leaves EnforceModes nothing to do. -/
theorem opXce_of_modeOk {s : State} (h : s.cpu.ModeOk) (hc : s.cpu.p.c = true → s.cpu.e = true) :
    opXce s = { s with cpu := s.cpu.exchangeCE } := by
  rw [opXce_eq_exchangeCE, enforceModes, enforceModes_of_modeOk (h.exchangeCE hc)]

/-- EnforceModes after the exchange, in the terms of the obligations. -/
theorem opXce_eq_withStatus (s : State) :
    opXce s = { s with cpu := withStatus { s.cpu.p with c := s.cpu.e } { s.cpu with e := s.cpu.p.c } } := by
  rw [← enforceModes_eq]
  rfl

/-- Settles O36: XCE completes in `opXce`, whose EnforceModes is `withStatus` (`opXce_eq_withStatus`); from legal modes with C = 0 or
C = E the exchange is all that it does (`opXce_of_modeOk`). -/
theorem exchangeCarryEmulation : Obligations.ExchangeCarryEmulation := by
  intro s c
  have completes : exec .xce s = .next (opXce s) := rfl
  rw [completes]
  refine ⟨rfl, congrArg _ (opXce_eq_withStatus s), fun h hc => ?intoNative, fun h hc => ?carryEqE⟩
  case intoNative => rw [opXce_of_modeOk h (by simp [hc]), Cpu.exchangeCE, hc]
  case carryEqE => rw [opXce_of_modeOk h hc.symm.trans, Cpu.exchangeCE_of_carry_eq hc]

/-! ### The instructions of one flag -/

/-- Settles O35: each of the seven writes P with its flag changed and nothing else, and NOP completes in the state it began in. -/
theorem flagInstructions : Obligations.FlagInstructions := by
  intro s result
  have writesP (p : Status) : .next (setP p s) = result p := rfl
  exact ⟨rfl, writesP _, writesP _, writesP _, writesP _, writesP _, writesP _, writesP _, rfl⟩

end Sys2Proof.Machine

/-! PROOFS. What one step and one scheduler action keep of the bus, and the cartridge as a program can reach it (20_memory.md R101,
70_reset_and_hazards.md R655). -/

namespace Sys2Proof.Machine

/-! ### A stable property of the bus over one step (30_encoding.md R212) -/

namespace Bus.Stable

variable {P : Bus → Prop} (hP : Bus.Stable P) {s t : State}
include hP

theorem exec {i : Instr} (h : exec i s = .next t) (hs : P s.bus) : P t.bus := by
  obtain ⟨u, hu, keeps⟩ := exec_keeps i s
  cases hu.symm.trans h
  exact keeps.bus P hP hs

theorem interruptStep (k : Interrupt) (hs : P s.bus) : P (interruptStep k s).bus :=
  ((Keeps.refl _).raiseInterrupt k).bus P hP hs

theorem runInstruction (h : runInstruction s = .next t) (hs : P s.bus) : P t.bus := by
  have fetched : Keeps (beginStep s) (fetch8 (beginStep s)).2 := (Keeps.refl _).fetch8
  have begun : P (beginStep s).bus := hP.dmaBytes 0 s.bus hs
  obtain ⟨-, rfl⟩ | ⟨-, u, hu, rfl⟩ := runInstruction_cases h
  · exact fetched.bus P hP begun
  · have executed : P u.bus := hP.exec hu ((fetched.fetchBytes _).bus P hP begun)
    exact executed

/-- A step changes the bus by accesses alone: what each of them keeps, it keeps. -/
theorem step (h : step s = .next t) (hs : P s.bus) : P t.bus := by
  obtain ⟨-, rfl⟩ | ⟨-, k, -, rfl⟩ | ⟨-, -, -, rfl⟩ | ⟨-, -, -, hrun⟩ := step_cases h
  · exact hs
  · exact hP.interruptStep k hs
  · exact hs
  · exact hP.runInstruction hrun hs

end Bus.Stable

/-! ### The cases of one scheduler action (60_exceptions.md R621) -/

theorem batch_eq_next {s : State} {t : Tick} :
    batch s = .next t ↔
      ∃ u, step (sampleIrq s) = .next u ∧ t = ⟨.batch, addMaster (u.cpu.cycles - s.cpu.cycles) u⟩ := by
  unfold batch
  simp only
  cases step (sampleIrq s)
  case next u => simp [eq_comm, sampleIrq]
  case fault | refused => simp

theorem tick_cases {s : State} {t : Tick} (h : tick s = .next t) :
    (s.bus.inVblank = false ∧ Config.vblankStart ≤ s.sched.master ∧
      t = ⟨.vblank (s.bus.ppu.renderFrame s.params.colorExpand) s.sched.frameSink, vblankEntry s⟩) ∨
    (s.bus.inVblank = true ∧ Config.frame ≤ s.sched.master ∧ t = ⟨.frameEnd, frameEnd s⟩) ∨
    (s.sched.running = true ∧ batch s = .next t) ∨
    (s.sched.running = false ∧ t = ⟨.stopped, s⟩) := by
  unfold tick at h
  split at h
  case isTrue hv =>
    cases h
    simp only [Bool.and_eq_true, Bool.not_eq_true', decide_eq_true_eq] at hv
    exact .inl ⟨hv.1, hv.2, rfl⟩
  case isFalse =>
    split at h
    case isTrue hf =>
      cases h
      simp only [Bool.and_eq_true, decide_eq_true_eq] at hf
      exact .inr (.inl ⟨hf.1, hf.2, rfl⟩)
    case isFalse =>
      split at h
      case isTrue hr => exact .inr (.inr (.inl ⟨hr, h⟩))
      case isFalse hr =>
        cases h
        exact .inr (.inr (.inr ⟨Bool.eq_false_of_not_eq_true hr, rfl⟩))

/-! ### The cartridge stays -/

theorem step_cart {s t : State} (h : step s = .next t) : t.bus.cart = s.bus.cart :=
  (cart_stable s.bus.cart).step h rfl

/-- Vertical-blank entry and the end of a frame write flags and counters; a batch is a step. -/
theorem tick_cart {s : State} {t : Tick} (h : tick s = .next t) : t.state.bus.cart = s.bus.cart := by
  obtain ⟨-, -, rfl⟩ | ⟨-, -, rfl⟩ | ⟨-, hb⟩ | ⟨-, rfl⟩ := tick_cases h
  · rfl
  · rfl
  · obtain ⟨u, hu, rfl⟩ := batch_eq_next.mp hb
    have sampled : u.bus.cart = (sampleIrq s).bus.cart := step_cart hu
    exact sampled
  · rfl

/-- A reset keeps the cartridge, and reads its vector from it. -/
theorem hostReset_cart (s : State) : (hostReset s).bus.cart = s.bus.cart :=
  ((Keeps.refl _).readWord _).bus _ (cart_stable s.bus.cart) rfl

/-! ### Stores to cartridge memory (20_memory.md R101, R113) -/

section
variable {b : Bus} {a : Addr} {k : Nat} (lay : Layout) (v : Byte)

theorem Bus.wr8_of_rom (ht : b.target a = .rom k) : b.wr8 lay a v = b := by
  simp only [Bus.wr8, Bus.writeTarget, ht]

theorem Bus.rd8_of_sram (ht : b.target a = .sram k) (hk : k < b.saveRamSize) : b.rd8 a = (Cells.read b.sram k, b) := by
  simp only [Bus.rd8, Bus.readTarget, ht, if_pos hk]

theorem Bus.wr8_of_sram (ht : b.target a = .sram k) (hk : k < b.saveRamSize) :
    b.wr8 lay a v = { b with sram := Cells.write b.sram k v } := by
  simp only [Bus.wr8, Bus.writeTarget, ht, if_pos hk]

/-- A store leaves the target of its address and the size of the save-RAM, so the read goes to the byte just written. -/
theorem Bus.rd8_wr8_of_sram (hb : b.MemOk) (ht : b.target a = .sram k) (hk : k < b.saveRamSize) :
    ((b.wr8 lay a v).rd8 a).1 = v := by
  have target : ({ b with sram := Cells.write b.sram k v } : Bus).target a = .sram k := (target_of_cart rfl a).trans ht
  rw [Bus.wr8_of_sram lay v ht hk, Bus.rd8_of_sram target hk, Cells.read_write hb.sram.1, if_pos rfl]

end

/-- Settles O48: no bus access changes the cartridge (`cart_stable`), and a step, a scheduler action and a reset change it in no other
way; a store to ROM is dropped (`Bus.wr8_of_rom`), one to save-RAM read back (`Bus.rd8_wr8_of_sram`). -/
theorem cartridgeIsReadOnly : Obligations.CartridgeIsReadOnly := by
  refine ⟨fun _ _ => step_cart, fun _ _ => tick_cart, hostReset_cart, fun s a o v ht => ?rom, fun s a k v hb ht hk => ?saveRam⟩
  case rom => rw [wr8_eq, Bus.wr8_of_rom _ v ht]
  case saveRam => exact Bus.rd8_wr8_of_sram _ v hb ht hk

end Sys2Proof.Machine

/-! PROOFS. The encoder and the decoder: one law for each operand format of the opcode map, and from it that each undoes the other
(30_encoding.md R200-R207). -/

namespace Sys2Proof

/-! ### Little-endian numbers (30_encoding.md R201) -/

/-- The three bytes of a 24-bit number, the least significant first. -/
def addrBytes (v : Addr) : List Byte := [addrLow v, addrMid v, addrBank v]

section
variable (d d' : Byte) (w : Word) (v : Addr)

theorem leAddr_byte : (leAddr [d]).setWidth 8 = d := by
  apply BitVec.eq_of_toNat_eq
  simp [leAddr]

theorem leAddr_lowByte (h : w.toNat < 256) : (leAddr [lowByte w]).setWidth 16 = w := by
  apply BitVec.eq_of_toNat_eq
  simp [leAddr]
  omega

theorem leAddr_word : (leAddr [lowByte w, highByte w]).setWidth 16 = w := by
  apply BitVec.eq_of_toNat_eq
  simp [leAddr]
  omega

theorem leAddr_addrBytes : leAddr (addrBytes v) = v := by
  apply BitVec.eq_of_toNat_eq
  simp [leAddr, addrBytes]
  omega

theorem leAddr_pair_low : (leAddr [d, d']).setWidth 8 = d := by
  apply BitVec.eq_of_toNat_eq
  have := d.isLt
  have := d'.isLt
  simp [leAddr]
  omega

theorem leAddr_pair_high : (leAddr [d, d'] >>> 8).setWidth 8 = d' := by
  apply BitVec.eq_of_toNat_eq
  have := d.isLt
  have := d'.isLt
  simp [leAddr, Nat.shiftRight_eq_div_pow]
  omega

theorem lowByte_setWidth : lowByte (v.setWidth 16) = addrLow v := by
  apply BitVec.eq_of_toNat_eq
  simp

theorem highByte_setWidth : highByte (v.setWidth 16) = addrMid v := by
  apply BitVec.eq_of_toNat_eq
  simp
  omega

theorem leAddr_toNat_lt_of_single : (leAddr [d]).toNat < 256 := by
  have := d.isLt
  simp [leAddr]
  omega

/-- Up to three bytes come back out of the number they make. -/
theorem addrBytes_leAddr {bs : List Byte} (h : bs.length ≤ 3) : (addrBytes (leAddr bs)).take bs.length = bs := by
  match bs with
  | [] => rfl
  | [b0] =>
    have h0 := b0.isLt
    simp [addrBytes, leAddr, ← BitVec.toNat_inj]
    omega
  | [b0, b1] =>
    have h0 := b0.isLt
    have h1 := b1.isLt
    simp [addrBytes, leAddr, ← BitVec.toNat_inj]
    omega
  | [b0, b1, b2] =>
    have h0 := b0.isLt
    have h1 := b1.isLt
    have h2 := b2.isLt
    simp [addrBytes, leAddr, ← BitVec.toNat_inj]
    omega

end

/-! ### The law of a format (30_encoding.md R202, R204) -/

/-- Form `f` builds `i`; of whatever `f` builds, the encoder writes the operand back, and the flagged immediate of a well-formedness
check is there in the forms `immM` and `immX` alone. -/
inductive Form.Encodes : Form → Instr → Prop
  | op0 {j i} (h : j = i) (bytes : ∀ m x, j.operandBytes m x = []) (noM : j.immM? = none) (noX : j.immX? = none) :
      Encodes (.op0 j) i
  | op8 {f d i} (h : f d = i) (bytes : ∀ d m x, (f d).operandBytes m x = [d])
      (noM : ∀ d, (f d).immM? = none) (noX : ∀ d, (f d).immX? = none) : Encodes (.op8 f) i
  | op16 {f w i} (h : f w = i) (bytes : ∀ w m x, (f w).operandBytes m x = [lowByte w, highByte w])
      (noM : ∀ w, (f w).immM? = none) (noX : ∀ w, (f w).immX? = none) : Encodes (.op16 f) i
  | op24 {f v i} (h : f v = i) (bytes : ∀ v m x, (f v).operandBytes m x = addrBytes v)
      (noM : ∀ v, (f v).immM? = none) (noX : ∀ v, (f v).immX? = none) : Encodes (.op24 f) i
  | immM {f w i} (h : f w = i) (bytes : ∀ w m x, (f w).operandBytes m x = immBytes m w)
      (imm : ∀ w, (f w).immM? = some w) (noX : ∀ w, (f w).immX? = none) : Encodes (.immM f) i
  | immX {f w i} (h : f w = i) (bytes : ∀ w m x, (f w).operandBytes m x = immBytes x w)
      (noM : ∀ w, (f w).immM? = none) (imm : ∀ w, (f w).immX? = some w) : Encodes (.immX f) i
  | banks {f d d' i} (h : f d d' = i) (bytes : ∀ d d' m x, (f d d').operandBytes m x = [d, d'])
      (noM : ∀ d d', (f d d').immM? = none) (noX : ∀ d d', (f d d').immX? = none) : Encodes (.banks f) i

/-- The opcode map holds the law in every cell: each instruction is built by the form of its opcode. -/
theorem opcodeForm_encodes (i : Instr) : (opcodeForm i.opcode).Encodes i := by
  cases i <;> simp only [Instr.opcode] <;> constructor <;> intros <;> rfl

namespace Form.Encodes

variable {f : Form} {i : Instr} (hf : f.Encodes i) (m x : Bool)
include hf

/-- Building from the encoded operand gives the instruction back. -/
theorem build_operandBytes (hw : i.wellFormed m x = true) : f.build (leAddr (i.operandBytes m x)) = i := by
  cases hf with
  | op0 h => exact h
  | op8 h bytes => subst h; rw [bytes, build, leAddr_byte]
  | op16 h bytes => subst h; rw [bytes, build, leAddr_word]
  | op24 h bytes => subst h; rw [bytes, build, leAddr_addrBytes]
  | @immM _ w _ h bytes imm noX =>
    subst h
    rw [bytes]
    cases m
    · exact congrArg _ (leAddr_word w)
    · have fits : w.toNat < 256 := by simpa [Instr.wellFormed, imm, noX, immFits] using hw
      exact congrArg _ (leAddr_lowByte w fits)
  | @immX _ w _ h bytes noM imm =>
    subst h
    rw [bytes]
    cases x
    · exact congrArg _ (leAddr_word w)
    · have fits : w.toNat < 256 := by simpa [Instr.wellFormed, imm, noM, immFits] using hw
      exact congrArg _ (leAddr_lowByte w fits)
  | banks h bytes => subst h; rw [bytes, build, leAddr_pair_low, leAddr_pair_high]

/-- The operand bytes of a built instruction are the lowest bytes of the number it was built from. -/
theorem operandBytes_build (v : Addr) :
    (f.build v).operandBytes m x = (addrBytes v).take (f.operandLength m x) := by
  have word : [lowByte (v.setWidth 16), highByte (v.setWidth 16)] = [addrLow v, addrMid v] := by
    rw [lowByte_setWidth, highByte_setWidth]
  have imm (eight : Bool) :
      immBytes eight (v.setWidth 16) = (addrBytes v).take (if eight then 1 else 2) := by
    cases eight
    · exact word
    · exact congrArg (· :: []) (lowByte_setWidth v)
  cases hf with
  | op0 _ bytes => exact bytes m x
  | op8 _ bytes => exact bytes _ m x
  | op16 _ bytes => exact (bytes _ m x).trans word
  | op24 _ bytes => exact bytes _ m x
  | immM _ bytes => exact (bytes _ m x).trans (imm m)
  | immX _ bytes => exact (bytes _ m x).trans (imm x)
  | banks _ bytes => exact bytes _ _ m x

theorem operandBytes_length : (i.operandBytes m x).length = f.operandLength m x := by
  have imm (eight : Bool) (w : Word) : (immBytes eight w).length = if eight then 1 else 2 := by cases eight <;> rfl
  cases hf with
  | op0 h bytes => subst h; rw [bytes]; rfl
  | op8 h bytes => subst h; rw [bytes]; rfl
  | op16 h bytes => subst h; rw [bytes]; rfl
  | op24 h bytes => subst h; rw [bytes]; rfl
  | immM h bytes => subst h; rw [bytes, imm]; rfl
  | immX h bytes => subst h; rw [bytes, imm]; rfl
  | banks h bytes => subst h; rw [bytes]; rfl

/-- What is built from as many bytes as the form takes is well formed. -/
theorem wellFormed_build {bs : List Byte} (hn : bs.length = f.operandLength m x) :
    (f.build (leAddr bs)).wellFormed m x = true := by
  have fits (eight : Bool) (h : bs.length = if eight then 1 else 2) :
      immFits eight (some ((leAddr bs).setWidth 16)) = true := by
    cases eight
    · rfl
    · obtain ⟨d, rfl⟩ := List.length_eq_one_iff.mp h
      have := leAddr_toNat_lt_of_single d
      simp [immFits]
      omega
  cases hf with
  | op0 _ _ noM noX => simp [build, Instr.wellFormed, noM, noX, immFits]
  | op8 _ _ noM noX => simp [build, Instr.wellFormed, noM, noX, immFits]
  | op16 _ _ noM noX => simp [build, Instr.wellFormed, noM, noX, immFits]
  | op24 _ _ noM noX => simp [build, Instr.wellFormed, noM, noX, immFits]
  | immM _ _ imm noX => rw [build, Instr.wellFormed, imm, noX, fits m hn]; rfl
  | immX _ _ noM imm => rw [build, Instr.wellFormed, imm, noM, fits x hn]; rfl
  | banks _ _ noM noX => simp [build, Instr.wellFormed, noM, noX, immFits]

end Form.Encodes

/-! ### The decoder on the encoder's bytes, and back -/

section
variable (m x : Bool)

theorem operandBytes_length (i : Instr) : (i.operandBytes m x).length = operandLength m x i.opcode :=
  (opcodeForm_encodes i).operandBytes_length m x

theorem instrOf_operandBytes {i : Instr} (hw : i.wellFormed m x = true) :
    instrOf i.opcode (leAddr (i.operandBytes m x)) = i :=
  (opcodeForm_encodes i).build_operandBytes m x hw

/-- The form of any opcode obeys the law. -/
theorem opcodeForm_encodes_of_opcode (op : Byte) : ∃ i, (opcodeForm op).Encodes i :=
  ⟨_, Machine.instrOf_opcode op 0 ▸ opcodeForm_encodes (instrOf op 0)⟩

theorem operandLength_le (op : Byte) : operandLength m x op ≤ 3 := by
  unfold operandLength Form.operandLength
  repeat' split
  all_goals decide

/-- The decoder takes an opcode and as many operand bytes as the opcode has. -/
theorem decode_eq_ok {bytes rest : List Byte} {i : Instr} :
    decode m x bytes = .ok (i, rest) ↔ ∃ op bs, bs.length = operandLength m x op ∧ bytes = op :: (bs ++ rest) ∧
      i = instrOf op (leAddr bs) := by
  constructor
  · intro h
    match bytes with
    | op :: tail =>
      simp only [decode] at h
      split at h
      case isTrue => cases h
      case isFalse hn =>
        cases h
        exact ⟨op, _, List.length_take_of_le (by omega), by rw [List.take_append_drop], rfl⟩
  · rintro ⟨op, bs, hn, rfl, rfl⟩
    simp [decode, ← hn]

end

/-- Settles O1: the decoder takes the opcode and exactly the operand bytes, and these build the instruction
(`instrOf_operandBytes`). -/
theorem decodeOfEncode : Obligations.DecodeOfEncode := by
  intro m x i rest hw
  exact (decode_eq_ok m x).mpr ⟨_, _, operandBytes_length m x i, rfl, (instrOf_operandBytes m x hw).symm⟩

/-- Settles O2: what is built from the bytes taken has those bytes as its operand (`Form.Encodes.operandBytes_build`). -/
theorem encodeOfDecode : Obligations.EncodeOfDecode := by
  intro m x bytes i rest h
  obtain ⟨op, bs, hn, rfl, rfl⟩ := (decode_eq_ok m x).mp h
  obtain ⟨_, law⟩ := opcodeForm_encodes_of_opcode op
  have operand : (instrOf op (leAddr bs)).operandBytes m x = bs := by
    rw [instrOf, law.operandBytes_build m x, ← operandLength, ← hn]
    exact addrBytes_leAddr (hn ▸ operandLength_le m x op)
  exact ⟨law.wellFormed_build m x hn, by rw [encode, operand, Machine.instrOf_opcode, List.cons_append]⟩

/-! ### The opcode map as a table (30_encoding.md R204, R207) -/

/-- The twelve opcodes whose length a width flag selects. -/
theorem operandLength_table (m x : Bool) (op : Byte) :
    operandLength m x op + 1 =
      if op ∈ ([0x09, 0x29, 0x49, 0x69, 0x89, 0xA9, 0xC9, 0xE9] : List Byte) then (if m then 2 else 3)
      else if op ∈ ([0xA0, 0xA2, 0xC0, 0xE0] : List Byte) then (if x then 2 else 3)
      else operandLength true true op + 1 := by
  revert m x op
  decide +kernel

theorem encode_length (m x : Bool) (i : Instr) : (encode m x i).length = operandLength m x i.opcode + 1 :=
  congrArg (· + 1) (operandBytes_length m x i)

/-- Settles O3: every opcode byte has its form; the lengths are a table of 256 rows (`operandLength_table`); and an instruction is
built from its opcode and operand bytes (`instrOf_operandBytes`). -/
theorem opcodeMap : Obligations.OpcodeMap := by
  refine ⟨fun m x op b1 b2 b3 rest => ?total, fun m x i => ?length, fun i j m x ho hb hi hj => ?injective⟩
  case total =>
    have hn := operandLength_le m x op
    refine ⟨_, _, (decode_eq_ok m x).mpr ⟨op, [b1, b2, b3].take (operandLength m x op), ?_,
      by rw [← List.append_assoc, List.take_append_drop]; rfl, rfl⟩, Machine.instrOf_opcode _ _⟩
    rw [List.length_take]
    exact Nat.min_eq_left hn
  case length => rw [encode_length, encode_length, operandLength_table]
  case injective => rw [← instrOf_operandBytes m x hi, ← instrOf_operandBytes m x hj, ho, hb]

/-- Settles O4: the decoder evaluates to the named instruction on each of the twenty-nine words. -/
theorem sampleWords : Obligations.SampleWords := by
  unfold Obligations.SampleWords
  decide

end Sys2Proof

/-! PROOFS. ADC, SBC, BIT, the accumulator shifts and the 16-bit transfers, each as the next state its rule names
(42_arithmetic_compare.md R332, R333; 43_logical_bit_shift.md R373, R374, R377-R381; 41_transfer_exchange.md R308-R312). -/

namespace Sys2Proof.Machine

/-! ### ADC and SBC -/

theorem Width.compl_eq_xor {w : Width} {v : Word} (h : v &&& w.ones = v) : w.compl v = v ^^^ w.ones := by
  calc w.compl v
      = w.compl (w.trunc v) := by rw [Width.trunc_eq_and, h]
    _ = v ^^^ w.ones := by rw [Width.compl_trunc_eq_xor, h]

section
variable (src : Src) (s : State)

theorem setAlu_eq (w : Width) (o : AluOut) :
    setAlu w o s = { s with cpu := { s.cpu with
      a := spliceA w o.r s.cpu.a
      p := { nzOf w o.r s.cpu.p with c := o.c, v := o.v } } } := by
  simp only [setAlu, setA_eq, setNZ_eq_nzOf, setP]

theorem opAdc_eq :
    let w := widthOf s.cpu.p.m
    let r := operand src w s
    let o := adcOut s.cpu.p.d (s.cpu.a &&& w.ones) r.1 s.cpu.p.c w
    opAdc src s = { s with
      bus := r.2.bus
      cpu := { s.cpu with a := spliceA w o.r s.cpu.a, p := { nzOf w o.r s.cpu.p with c := o.c, v := o.v } } } := by
  simp only [opAdc, wM, setAlu_eq, Width.trunc_eq_and]
  rw [operand_state]

/-- SBC adds the complement of its operand, which fits its width. -/
theorem opSbc_eq :
    let w := widthOf s.cpu.p.m
    let r := operand src w s
    let a := s.cpu.a &&& w.ones
    let o := if s.cpu.p.d then addDec a r.1 s.cpu.p.c w true else addBin a (r.1 ^^^ w.ones) s.cpu.p.c w
    opSbc src s = { s with
      bus := r.2.bus
      cpu := { s.cpu with a := spliceA w o.r s.cpu.a, p := { nzOf w o.r s.cpu.p with c := o.c, v := o.v } } } := by
  simp only [opSbc, wM, setAlu_eq, Width.trunc_eq_and, sbcOut, Width.compl_eq_xor (operand_and src _ s)]
  rw [operand_state]

end

/-- Settles O12: a form's opcode is read off its shape, and its meaning is `opAdc_eq` or `opSbc_eq`. -/
theorem addAndSubtract : Obligations.AddAndSubtract := by
  intro i src s
  refine ⟨fun h => ?_, fun h => ?_⟩
  · exact ⟨readOpcode_of_readShape h, (exec_of_readShape s h).trans (congrArg _ (opAdc_eq src s))⟩
  · exact ⟨readOpcode_of_readShape h, (exec_of_readShape s h).trans (congrArg _ (opSbc_eq src s))⟩

/-! ### BIT -/

section
variable (s : State)

theorem opBitMem_eq (m : Mode) :
    let w := widthOf s.cpu.p.m
    let r := operand (.mem m) w s
    opBitMem m s = { s with
      bus := r.2.bus
      cpu := { s.cpu with p := { s.cpu.p with
        z := decide (s.cpu.a &&& w.ones &&& r.1 = 0)
        n := r.1.getLsbD (w.bits - 1)
        v := r.1.getLsbD (w.bits - 2) } } } := by
  simp only [opBitMem, wM, setP, Width.trunc_eq_and, Width.msb_eq, Width.bitBelowMsb_eq]
  rw [operand_state]
  rfl

theorem opBitImm_eq (c : Word) :
    let w := widthOf s.cpu.p.m
    opBitImm c s = { s with cpu := { s.cpu with p := { s.cpu.p with
      z := decide (s.cpu.a &&& w.ones &&& (c &&& w.ones) = 0) } } } := by
  simp only [opBitImm, wM, setZTest_eq, Width.trunc_eq_and]

end

/-- Settles O16: the memory forms are `opBitMem_eq`, the immediate form `opBitImm_eq`. -/
theorem bitTests : Obligations.BitTests := by
  intro i s
  refine ⟨fun m h => ?memory, fun c h => ?immediate⟩
  case memory => exact ⟨readOpcode_of_readShape h, (exec_of_readShape s h).trans (congrArg _ (opBitMem_eq s m))⟩
  case immediate =>
    have opcode : some 0x89 = some i.opcode := readOpcode_of_readShape h
    exact ⟨(Option.some.inj opcode).symm, (exec_of_readShape s h).trans (congrArg _ (opBitImm_eq s c))⟩

/-! ### Shifts of the accumulator -/

theorem opShiftA_eq (op : Shift) (s : State) :
    let w := widthOf s.cpu.p.m
    let q := shiftSpec op (s.cpu.a &&& w.ones) s.cpu.p.c w
    opShiftA op s = { s with cpu := { s.cpu with
      a := spliceA w q.1 s.cpu.a
      p := { nzOf w q.1 s.cpu.p with c := q.2 } } } := by
  simp only [opShiftA, wM, setShiftFlags_eq, setA_eq, Shift.apply_eq_shiftSpec, Width.trunc_eq_and]

/-- Settles O23: each of the four is `opShiftA_eq` at its shift. -/
theorem accumulatorShifts : Obligations.AccumulatorShifts := by
  intro s
  refine ⟨rfl, ?asl, ?lsr, ?rol, ?ror⟩
  all_goals exact congrArg _ (opShiftA_eq _ s)

/-! ### Transfers of 16 bits -/

theorem setS_eq (v : Word) (s : State) :
    setS v s = { s with cpu := { s.cpu with s := if s.cpu.e then 0x0100 ||| (v &&& 0x00FF) else v } } := by
  rw [setS, stackValue_eq]

/-- Settles O25: a transfer into S is `setS_eq`; the others set a register and then N and Z (`setNZ_eq`). -/
theorem wordTransfers : Obligations.WordTransfers := by
  intro s
  refine ⟨rfl, ?txs, ?tcs, ?tsc, ?tcd, ?tdc⟩
  case txs | tcs => exact congrArg _ (setS_eq _ s)
  case tsc | tdc => exact congrArg Host.Outcome.next (setNZ_eq (setA .w16 _ s) .w16 _)
  case tcd => exact congrArg Host.Outcome.next (setNZ_eq (setD _ s) .w16 _)

end Sys2Proof.Machine

/-! PROOFS. Indirect jumps, calls and returns, the stack instructions, the writes of the status and the interrupts, each as the next
state its rule names (44_control_transfer.md R422-R430; 45_stack.md R450-R466; 46_flags_mode_system.md R497-R507; 60_exceptions.md
R554-R556). -/

namespace Sys2Proof.Machine

/-! ### Jumps through a pointer -/

theorem addrOf_add_ofNat (bank : Byte) (a x : Word) (k : Nat) :
    addrOf bank (a + x + BitVec.ofNat 16 k) = addrOf bank (BitVec.ofNat 16 (a.toNat + x.toNat + k)) := by
  congr 1
  apply BitVec.eq_of_toNat_eq
  simp

/-- The pointer of JMP (a,X) and JSR (a,X): two bytes of one bank. -/
theorem readBankWord_eq (bank : Byte) (a x : Word) (s : State) :
    let q := readNat (fun k => addrOf bank (BitVec.ofNat 16 (a.toNat + x.toNat + k))) 2 0 s
    readBankWord bank (a + x) s = (BitVec.ofNat 16 q.1, q.2) := by
  have h0 : addrOf bank (a + x) = addrOf bank (BitVec.ofNat 16 (a.toNat + x.toNat + 0)) := by
    rw [← addrOf_add_ofNat]
    simp
  have h1 : addrOf bank (a + x + 1) = _ := addrOf_add_ofNat bank a x 1
  simp only [readBankWord, readNat_two, h0, h1]
  rfl

theorem memRead0_state (a n : Nat) (s : State) : (memRead0 a n s).2 = { s with bus := (memRead0 a n s).2.bus } :=
  readNat_state _ _ _ _

section
variable (s : State) (a : Word)

theorem opJmpInd_eq :
    let p := memRead0 a.toNat 2 s
    opJmpInd a s = { s with bus := p.2.bus, cpu := { s.cpu with pc := BitVec.ofNat 16 p.1 } } := by
  simp only [opJmpInd, readWord_bank0]
  rw [memRead0_state]
  rfl

theorem jumpIndexed_eq :
    let q := readNat (fun k => addrOf s.cpu.pb (BitVec.ofNat 16 (a.toNat + s.cpu.x.toNat + k))) 2 0 s
    jumpIndexed a s = { s with bus := q.2.bus, cpu := { s.cpu with pc := BitVec.ofNat 16 q.1 } } := by
  simp only [jumpIndexed, readBankWord_eq]
  rw [readNat_state]
  rfl

theorem opJmlInd_eq :
    let l := memRead0 a.toNat 3 s
    opJmlInd a s = { s with
      bus := l.2.bus
      cpu := { s.cpu with pb := BitVec.ofNat 8 (l.1 / 65536), pc := BitVec.ofNat 16 (l.1 % 65536) } } := by
  intro l
  have hl : l.1 < 16777216 := readNat_lt _ 3 0 s
  simp only [opJmlInd, readLong_bank0, jumpLong_eq, BitVec.toNat_ofNat, show (memRead0 a.toNat 3 s).1 = l.1 from rfl,
    Nat.mod_eq_of_lt hl]
  rw [memRead0_state]

end

/-- Settles O27: each jump reads its pointer and sets PC, or PC and PB, from it. -/
theorem indirectJumps : Obligations.IndirectJumps := fun s a =>
  ⟨rfl, congrArg _ (opJmpInd_eq s a), congrArg _ (jumpIndexed_eq s a), congrArg _ (opJmlInd_eq s a)⟩

/-! ### Calls and returns -/

theorem pushReturn_eq (s : State) : pushReturn s = pushed [highByte (s.cpu.pc - 1), lowByte (s.cpu.pc - 1)] s :=
  push16_eq _ s

theorem pushReturn_push8 (v : Byte) (s : State) :
    pushReturn (push8 v s) = pushed [v, highByte (s.cpu.pc - 1), lowByte (s.cpu.pc - 1)] s := by
  rw [push8_eq]
  exact push16_pushed _ [v] s

/-- Settles O28: the pushes are `pushReturn_eq` and `pushReturn_push8`; then the jump. -/
theorem subroutineCalls : Obligations.SubroutineCalls := by
  intro s a al
  refine ⟨rfl, ?jsr, ?jsrIndexed, ?jsl⟩
  case jsr => exact congrArg (fun t => Host.Outcome.next (setPc a t)) (pushReturn_eq s)
  case jsrIndexed =>
    exact congrArg _ ((congrArg (jumpIndexed a) (pushReturn_eq s)).trans (jumpIndexed_eq _ a))
  case jsl => exact congrArg _ ((congrArg (jumpLong al) (pushReturn_push8 _ s)).trans (jumpLong_eq al _))

theorem opRts_eq (s : State) :
    let r := pulled 2 s
    opRts s = { r.2 with cpu := { r.2.cpu with pc := BitVec.ofNat 16 (leNat r.1 + 1) } } := by
  simp only [opRts, pull16_eq, BitVec.ofNat_add]
  rfl

/-- A pull does not read PC. -/
theorem pull8_setPc (v : Word) (s : State) : pull8 (setPc v s) = ((pull8 s).1, setPc v (pull8 s).2) := rfl

theorem opRtl_eq (s : State) :
    let l := pulled 3 s
    opRtl s = { l.2 with cpu := { l.2.cpu with
      pc := BitVec.ofNat 16 (leNat (l.1.take 2) + 1)
      pb := l.1.getD 2 0 } } := by
  simp only [opRtl, opRts, pull16_eq, pull8_setPc, pull8_pulled 2 (by decide), pulled_take, BitVec.ofNat_add]
  rfl

/-- Settles O29, by `opRts_eq` and `opRtl_eq`. -/
theorem subroutineReturns : Obligations.SubroutineReturns := fun s =>
  ⟨rfl, congrArg _ (opRts_eq s), congrArg _ (opRtl_eq s)⟩

/-! ### Pushes -/

theorem pushW_widthOf (eight : Bool) (v : Word) (s : State) :
    pushW (widthOf eight) v s = if eight then pushed [lowByte v] s else pushed [highByte v, lowByte v] s := by
  rw [pushW_eq]
  cases eight <;> rfl

/-- Settles O30: a push of a flagged width is `pushW_widthOf`, one of a byte `push8_eq`, one of a word `push16_eq`. -/
theorem registerPushes : Obligations.RegisterPushes := by
  intro s
  refine ⟨rfl, ?pha, ?phx, ?phy, ?php, ?phb, ?phd, ?phk⟩
  case pha | phx | phy => exact congrArg _ (pushW_widthOf _ _ s)
  case php | phb | phk => exact congrArg _ (push8_eq _ s)
  case phd => exact congrArg _ (push16_eq _ s)

theorem directPage_toNat (c : Cpu) (d : Byte) : (directPage c d).toNat = (c.d.toNat + d.toNat) % 65536 := by
  simp [directPage]

/-- `MemRead0` takes its address modulo 2^16. -/
theorem memRead0_mod (a n : Nat) (s : State) : memRead0 (a % 65536) n s = memRead0 a n s := by
  simp only [memRead0, Nat.mod_add_mod]

theorem opPei_eq (d : Byte) (s : State) :
    let p := memRead0 (s.cpu.d.toNat + d.toNat) 2 s
    let v := BitVec.ofNat 16 p.1
    opPei d s = pushed [highByte v, lowByte v] p.2 := by
  simp only [opPei, readWord_bank0, directPage_toNat, memRead0_mod, push16_eq]

/-- Settles O31: each pushes a word (`push16_eq`); PER's is relative to the instruction after it (`add_eq_ofInt`). -/
theorem effectivePushes : Obligations.EffectivePushes := by
  intro s v d
  refine ⟨rfl, congrArg _ (push16_eq v s), congrArg _ (opPei_eq d s), ?per⟩
  case per => exact congrArg _ ((congrArg (push16 · s) (add_eq_ofInt s.cpu.pc v)).trans (push16_eq _ s))

/-! ### Pulls -/

section
variable (s : State)

theorem leNat_lt (bs : List Byte) : leNat bs < 256 ^ bs.length := by
  induction bs with
  | nil => decide
  | cons b bs ih =>
    have := b.isLt
    simp only [leNat, List.length_cons, Nat.pow_succ]
    omega

/-- A value pulled at a width fits it. -/
theorem pulled_and_ones (w : Width) :
    BitVec.ofNat 16 (leNat (pulled w.bytes s).1) &&& w.ones = BitVec.ofNat 16 (leNat (pulled w.bytes s).1) := by
  cases w
  · have h := leNat_lt (pulled 1 s).1
    rw [pulled_length] at h
    rw [← Width.trunc_eq_and]
    apply BitVec.eq_of_toNat_eq
    simp [Width.trunc, Width.bytes]
    omega
  · exact BitVec.and_allOnes

theorem opPla_eq :
    let w := widthOf s.cpu.p.m
    let r := pulled w.bytes s
    let v := BitVec.ofNat 16 (leNat r.1)
    opPla s = { r.2 with cpu := { r.2.cpu with a := spliceA w v s.cpu.a, p := nzOf w v s.cpu.p } } := by
  simp only [opPla, wM, pullW_eq, setA_eq, setNZ_eq]
  rfl

theorem opPlx_eq :
    let w := widthOf s.cpu.p.x
    let r := pulled w.bytes s
    let v := BitVec.ofNat 16 (leNat r.1)
    opPlx s = { r.2 with cpu := { r.2.cpu with x := v, p := nzOf w v s.cpu.p } } := by
  simp only [opPlx, wX, pullW_eq, setX_eq, setNZ_eq, pulled_and_ones]
  rfl

theorem opPly_eq :
    let w := widthOf s.cpu.p.x
    let r := pulled w.bytes s
    let v := BitVec.ofNat 16 (leNat r.1)
    opPly s = { r.2 with cpu := { r.2.cpu with y := v, p := nzOf w v s.cpu.p } } := by
  simp only [opPly, wX, pullW_eq, setY_eq, setNZ_eq, pulled_and_ones]
  rfl

theorem opPlb_eq :
    let r := pulled 1 s
    opPlb s = { r.2 with cpu := { r.2.cpu with db := r.1.getD 0 0, p := nzOf .w8 (zext (r.1.getD 0 0)) s.cpu.p } } := by
  simp only [opPlb, pull8_eq, setNZ_eq]
  rfl

theorem opPld_eq :
    let r := pulled 2 s
    let v := BitVec.ofNat 16 (leNat r.1)
    opPld s = { r.2 with cpu := { r.2.cpu with d := v, p := nzOf .w16 v s.cpu.p } } := by
  simp only [opPld, pull16_eq, setNZ_eq]
  rfl

end

/-- Settles O32: each pull in its own equation. -/
theorem registerPulls : Obligations.RegisterPulls := fun s =>
  ⟨rfl, congrArg _ (opPla_eq s), congrArg _ (opPlx_eq s), congrArg _ (opPly_eq s), congrArg _ (opPlb_eq s),
    congrArg _ (opPld_eq s)⟩

/-! ### The status byte (10_state.md R37) -/

theorem Status.ofByte_toByte (p : Status) : Status.ofByte p.toByte = p := by
  obtain ⟨n, v, m, x, d, i, z, c⟩ := p
  revert n v m x d i z c
  decide

theorem Status.toByte_ofByte (b : Byte) : (Status.ofByte b).toByte = b := by
  revert b
  decide +kernel

theorem Status.ofByte_and_not (p : Status) (c : Byte) : Status.ofByte (p.toByte &&& ~~~c) =
    { n := p.n && !c.getLsbD 7, v := p.v && !c.getLsbD 6, m := p.m && !c.getLsbD 5, x := p.x && !c.getLsbD 4
      d := p.d && !c.getLsbD 3, i := p.i && !c.getLsbD 2, z := p.z && !c.getLsbD 1, c := p.c && !c.getLsbD 0 } := by
  conv_rhs => rw [← ofByte_toByte p]
  simp [ofByte]

theorem Status.ofByte_or (p : Status) (c : Byte) : Status.ofByte (p.toByte ||| c) =
    { n := p.n || c.getLsbD 7, v := p.v || c.getLsbD 6, m := p.m || c.getLsbD 5, x := p.x || c.getLsbD 4
      d := p.d || c.getLsbD 3, i := p.i || c.getLsbD 2, z := p.z || c.getLsbD 1, c := p.c || c.getLsbD 0 } := by
  conv_rhs => rw [← ofByte_toByte p]
  simp [ofByte]

/-- A write of P followed by EnforceModes. -/
theorem enforceModes_setP (p : Status) (s : State) : enforceModes (setP p s) = { s with cpu := withStatus p s.cpu } := by
  rw [← enforceModes_eq]
  rfl

theorem opPlp_eq (s : State) :
    let r := pulled 1 s
    opPlp s = { r.2 with cpu := withStatus (Status.ofByte (r.1.getD 0 0)) r.2.cpu } := by
  simp only [opPlp, pull8_eq, enforceModes_setP]

/-- Settles O34: the bits of the status byte one by one, and PLP, REP and SEP as a write of P with EnforceModes. -/
theorem statusWrites : Obligations.StatusWrites := by
  refine ⟨fun p => ?bits, Status.toByte_ofByte, fun s c => ⟨rfl, congrArg _ (opPlp_eq s), ?rep, ?sep⟩⟩
  case bits =>
    have h := Status.ofByte_toByte p
    exact ⟨congrArg Status.n h, congrArg Status.v h, congrArg Status.m h, congrArg Status.x h, congrArg Status.d h,
      congrArg Status.i h, congrArg Status.z h, congrArg Status.c h, h⟩
  case rep => exact congrArg _ ((enforceModes_setP _ s).trans (by rw [Status.ofByte_and_not]))
  case sep => exact congrArg _ ((enforceModes_setP _ s).trans (by rw [Status.ofByte_or]))

/-! ### Interrupts -/

/-- Settles O38: BRK and COP are `raiseInterrupt_eq`, at their vectors. -/
theorem softwareInterrupts : Obligations.SoftwareInterrupts := by
  intro s sig
  refine ⟨rfl, congrArg _ ((raiseInterrupt_eq .brk s).trans ?_), congrArg _ ((raiseInterrupt_eq .cop s).trans ?_)⟩
  all_goals
    unfold Interrupt.pushedStatus Interrupt.vector Interrupt.software
    cases s.cpu.e <;> rfl

/-- Settles O39: the entry is `raiseInterrupt_eq` in the state whose wait has ended, with its cycles. -/
theorem hardwareInterrupts : Obligations.HardwareInterrupts := by
  intro s
  have entry (k : Interrupt) := raiseInterrupt_eq k { s with cpu := { s.cpu with waiting := false } }
  refine ⟨(congrArg (addCycles _) (entry .nmi)).trans ?_, (congrArg (addCycles _) (entry .irq)).trans ?_⟩
  all_goals
    unfold Interrupt.pushedStatus Interrupt.vector Interrupt.software
    cases s.cpu.e <;> rfl

/-- In emulation mode a pull leaves S in page 1 already. -/
theorem slotUp_paged (e : Bool) (sp : Word) (k : Nat) :
    (if e then 0x0100 ||| (slotUp e sp k &&& 0x00FF) else slotUp e sp k) = slotUp e sp k := by
  cases e
  · rfl
  · simp [slotUp, BitVec.and_or_distrib_right, BitVec.and_assoc]

/-- The state after `n` bytes are pulled and P, with EnforceModes, has become `p`. -/
def pulledWithStatus (p : Status) (n : Nat) (s : State) : State :=
  { (pulled n s).2 with cpu := withStatus p (pulled n s).2.cpu }

/-- EnforceModes after a pull keeps the S that the pull left. -/
theorem pulledWithStatus_eq (p : Status) (n : Nat) (s : State) :
    pulledWithStatus p n s =
      { (pulled n s).2 with cpu := { withStatus p s.cpu with s := slotUp s.cpu.e s.cpu.s n } } := by
  have paged := slotUp_paged s.cpu.e s.cpu.s n
  exact congrArg (fun v => { (pulled n s).2 with cpu := { withStatus p s.cpu with s := v } }) paged

/-- A pull reads S and E of the CPU, and writes S. -/
theorem pull8_withCpu {c : Cpu} {s : State} (he : c.e = s.cpu.e) (hs : c.s = s.cpu.s) :
    pull8 { s with cpu := c } = ((pull8 s).1, { (pull8 s).2 with cpu := { c with s := (pull8 s).2.cpu.s } }) := by
  simp only [pull8, setS, rd8_eq, he, hs]

theorem pull8_pulledWithStatus (p : Status) (n : Nat) (hn : n ≠ 0) (s : State) :
    pull8 (pulledWithStatus p n s) = ((pulled (n + 1) s).1.getD n 0, pulledWithStatus p (n + 1) s) := by
  have h := pull8_withCpu (c := { withStatus p s.cpu with s := slotUp s.cpu.e s.cpu.s n }) (s := (pulled n s).2) rfl rfl
  rw [pull8_pulled n hn] at h
  rw [pulledWithStatus_eq, pulledWithStatus_eq]
  exact h

theorem returnFromInterrupt_eq (s : State) :
    let r := pulled (if s.cpu.e then 3 else 4) s
    let c := withStatus (Status.ofByte (r.1.getD 0 0)) r.2.cpu
    returnFromInterrupt s = { r.2 with cpu := { c with
      pc := BitVec.ofNat 16 (leNat ((r.1.drop 1).take 2))
      pb := if s.cpu.e then s.cpu.pb else r.1.getD 3 0 } } := by
  have status : enforceModes (setP (Status.ofByte (pull8 s).1) (pull8 s).2) =
      pulledWithStatus (Status.ofByte ((pulled 1 s).1.getD 0 0)) 1 s := by
    rw [enforceModes_setP, pull8_eq]
    rfl
  simp only [returnFromInterrupt, status, pull16, pull8_setPc, pull8_pulledWithStatus _ _ (Nat.succ_ne_zero _)]
  have mode : ∀ w, (setPc w (pulledWithStatus (Status.ofByte ((pulled 1 s).1.getD 0 0)) 3 s)).cpu.e = s.cpu.e := fun _ => rfl
  by_cases he : s.cpu.e = true
  · simp only [mode, if_pos he]
    rfl
  · simp only [mode, if_neg he]
    rfl

/-- Settles O40. -/
theorem returnFromInterruptInstruction : Obligations.ReturnFromInterrupt := fun s =>
  ⟨rfl, congrArg _ (returnFromInterrupt_eq s)⟩

/-! ### Block moves -/

theorem opBlockMove_eq (by_ : Word) (dst src : Byte) (s : State) :
    let w := widthOf s.cpu.p.x
    let r := s.bus.rd8 (addrOf src s.cpu.x)
    opBlockMove by_ dst src s = { s with
      bus := r.2.wr8 s.params.dmaLayout (addrOf dst s.cpu.y) r.1
      cpu := { s.cpu with
        db := dst
        x := (s.cpu.x + by_) &&& w.ones
        y := (s.cpu.y + by_) &&& w.ones
        a := s.cpu.a - 1
        pc := if s.cpu.a = 0 then s.cpu.pc else s.cpu.pc - 3 } } := by
  have last : s.cpu.a - 1 = 0xFFFF ↔ s.cpu.a = 0 := by bv_omega
  simp only [opBlockMove, setA_eq, setX_eq, setY_eq, wX, setDb, rd8_eq, wr8_eq, setPc, spliceA, last]
  split <;> rfl

/-- Settles O42: MVN steps by 1 and MVP by -1 (`opBlockMove_eq`). -/
theorem blockMoves : Obligations.BlockMoves := by
  intro s dst src
  simp only [sub_eq_add_neg s.cpu.x, sub_eq_add_neg s.cpu.y]
  exact ⟨rfl, congrArg _ (opBlockMove_eq 1 dst src s), congrArg _ (opBlockMove_eq (-1) dst src s)⟩

/-- Settles O37: WDM completes where it began, and WAI and STP set their latch. -/
theorem reservedWaitStop : Obligations.ReservedWaitStop := by
  intro s sig
  exact ⟨rfl, rfl, rfl, rfl⟩

end Sys2Proof.Machine

/-! PROOFS. What every step keeps: the form of every memory and the mode constraints (10_state.md R41, 46_flags_mode_system.md
R505). -/

namespace Sys2Proof.Machine

/-- Settles O44: every bus access keeps the form of every memory (`memOk_stable`), and a step changes the bus by accesses alone. -/
theorem memoriesStayWellFormed : Obligations.MemoriesStayWellFormed :=
  fun _ _ hs h => memOk_stable.step h hs

/-! ### The mode constraints under the shared operations -/

theorem highByte_stackValue (e : Bool) (v : Word) (he : e = true) : highByte (stackValue e v) = 0x01 := by
  simp [stackValue, he]

theorem highByte_trunc_w8 (v : Word) : highByte (Width.w8.trunc v) = 0 := highByte_zext _

namespace Cpu.ModeOk

variable {s : State}

/-- The constraints are about E, M, X, S and the index registers. -/
theorem congr {c c' : Cpu} (h : c.ModeOk) (he : c'.e = c.e) (hm : c'.p.m = c.p.m) (hpx : c'.p.x = c.p.x) (hs : c'.s = c.s)
    (hx : c'.x = c.x) (hy : c'.y = c.y) : c'.ModeOk where
  emulation_m := by rw [he, hm]; exact h.emulation_m
  emulation_x := by rw [he, hpx]; exact h.emulation_x
  emulation_s := by rw [he, hs]; exact h.emulation_s
  index_x := by rw [hpx, hx]; exact h.index_x
  index_y := by rw [hpx, hy]; exact h.index_y

theorem setA (w : Width) (v : Word) (h : s.cpu.ModeOk) : (setA w v s).cpu.ModeOk := h.congr rfl rfl rfl rfl rfl rfl
theorem setD (v : Word) (h : s.cpu.ModeOk) : (setD v s).cpu.ModeOk := h.congr rfl rfl rfl rfl rfl rfl
theorem setDb (v : Byte) (h : s.cpu.ModeOk) : (setDb v s).cpu.ModeOk := h.congr rfl rfl rfl rfl rfl rfl
theorem setPb (v : Byte) (h : s.cpu.ModeOk) : (setPb v s).cpu.ModeOk := h.congr rfl rfl rfl rfl rfl rfl
theorem setPc (v : Word) (h : s.cpu.ModeOk) : (setPc v s).cpu.ModeOk := h.congr rfl rfl rfl rfl rfl rfl
theorem setNZ (w : Width) (v : Word) (h : s.cpu.ModeOk) : (setNZ w v s).cpu.ModeOk := h.congr rfl rfl rfl rfl rfl rfl

theorem setP (p : Status) (hm : p.m = s.cpu.p.m) (hx : p.x = s.cpu.p.x) (h : s.cpu.ModeOk) : (setP p s).cpu.ModeOk :=
  h.congr rfl hm hx rfl rfl rfl

theorem setS (v : Word) (h : s.cpu.ModeOk) : (setS v s).cpu.ModeOk :=
  { h with emulation_s := highByte_stackValue _ v }

/-- An index register takes a value cut to the width that P.X selects. -/
theorem setX {w : Width} (hw : w = widthOf s.cpu.p.x) (v : Word) (h : s.cpu.ModeOk) : (setX w v s).cpu.ModeOk :=
  { h with index_x := fun hx => by rw [hw, setX_x, show s.cpu.p.x = true from hx]; exact highByte_trunc_w8 v }

theorem setY {w : Width} (hw : w = widthOf s.cpu.p.x) (v : Word) (h : s.cpu.ModeOk) : (setY w v s).cpu.ModeOk :=
  { h with index_y := fun hx => by rw [hw, setY_y, show s.cpu.p.x = true from hx]; exact highByte_trunc_w8 v }

theorem operand (src : Src) (w : Width) (h : s.cpu.ModeOk) : (operand src w s).2.cpu.ModeOk := by rwa [operand_cpu]

theorem readModifyWrite (m : Mode) (w : Width) (f : Word → Word) {g : Word → State → State}
    (hg : ∀ v u, u.cpu.ModeOk → (g v u).cpu.ModeOk) (h : s.cpu.ModeOk) : (readModifyWrite m w f g s).cpu.ModeOk := by
  refine hg _ _ ?_
  rwa [writeEa_cpu, readEa_cpu, effAddr_cpu]

theorem push8 (v : Byte) (h : s.cpu.ModeOk) : (push8 v s).cpu.ModeOk := setS (s := wr8 _ v s) _ h
theorem push16 (v : Word) (h : s.cpu.ModeOk) : (push16 v s).cpu.ModeOk := (h.push8 _).push8 _
theorem pull8 (h : s.cpu.ModeOk) : (pull8 s).2.cpu.ModeOk := h.setS _
theorem pull16 (h : s.cpu.ModeOk) : (pull16 s).2.cpu.ModeOk := h.pull8.pull8

theorem pushW (w : Width) (v : Word) (h : s.cpu.ModeOk) : (pushW w v s).cpu.ModeOk := by
  cases w
  · exact h.push8 _
  · exact h.push16 _

theorem pullW (w : Width) (h : s.cpu.ModeOk) : (pullW w s).2.cpu.ModeOk := by
  cases w
  · exact h.pull8
  · exact h.pull16

theorem fetchBytes (n : Nat) (h : s.cpu.ModeOk) : (fetchBytes n s).2.cpu.ModeOk := by
  induction n generalizing s with
  | zero => exact h
  | succ n ih => exact ih (s := (fetch8 s).2) (h.setPc _)

/-- An entry writes I and D of the status, and S by pushes. -/
theorem raiseInterrupt (k : Interrupt) (h : s.cpu.ModeOk) : (raiseInterrupt k s).cpu.ModeOk := by
  have pushed (vs : List Byte) : (pushed vs s).cpu.ModeOk := by
    induction vs using List.reverseRecOn with
    | nil => rwa [pushed_nil]
    | append_singleton vs v ih => rw [← push8_pushed]; exact ih.push8 v
  rw [raiseInterrupt_eq]
  exact (pushed _).congr rfl rfl rfl rfl rfl rfl

/-! ### The meanings -/

theorem readMeaning (op : ReadOp) (src : Src) (h : s.cpu.ModeOk) : (op.meaning src s).cpu.ModeOk := by
  cases op
  case ora | and | eor => exact ((h.operand src _).setA _ _).setNZ _ _
  case lda => exact ((h.operand src _).setA _ _).setNZ _ _
  case ldx =>
    exact ((h.operand src _).setX (by rw [operand_cpu, wX]) _).setNZ _ _
  case ldy =>
    exact ((h.operand src _).setY (by rw [operand_cpu, wX]) _).setNZ _ _
  case adc => rw [ReadOp.meaning, opAdc_eq]; exact h.congr rfl rfl rfl rfl rfl rfl
  case sbc => rw [ReadOp.meaning, opSbc_eq]; exact h.congr rfl rfl rfl rfl rfl rfl
  case cmp | cpx | cpy => exact (congrArg State.cpu (opCompare_eq _ _ src s)) ▸ h.congr rfl rfl rfl rfl rfl rfl
  case bit =>
    cases src
    case imm c => rw [ReadOp.meaning, opBitImm_eq]; exact h.congr rfl rfl rfl rfl rfl rfl
    case mem m => rw [ReadOp.meaning, opBitMem_eq]; exact h.congr rfl rfl rfl rfl rfl rfl
    case acc => exact h

theorem storeMeaning (r : Stored) (m : Mode) (h : s.cpu.ModeOk) : (r.meaning m s).cpu.ModeOk := by
  rwa [Stored.meaning_cpu]

theorem rmwMeaning (op : RmwOp) (m : Mode) (h : s.cpu.ModeOk) : (op.meaning m s).cpu.ModeOk := by
  cases op
  case inc | dec => rw [RmwOp.meaning, opBumpMem_eq]; exact h.congr rfl rfl rfl rfl rfl rfl
  case asl | lsr | rol | ror => rw [RmwOp.meaning, opShiftMem_eq]; exact h.congr rfl rfl rfl rfl rfl rfl
  case tsb => rw [RmwOp.meaning, opTsb_eq]; exact h.congr rfl rfl rfl rfl rfl rfl
  case trb => rw [RmwOp.meaning, opTrb_eq]; exact h.congr rfl rfl rfl rfl rfl rfl

theorem opBranch (c : Bool) (r : Byte) (h : s.cpu.ModeOk) : (opBranch c r s).cpu.ModeOk := by
  cases c
  · exact h
  · exact h.setPc _

/-- A block move steps both index registers at the width of P.X. -/
theorem opBlockMove (by_ : Word) (dst src : Byte) (h : s.cpu.ModeOk) : (opBlockMove by_ dst src s).cpu.ModeOk := by
  have moved := (h.setX rfl (s.cpu.x + by_)).setY (s := Machine.setX (wX s) (s.cpu.x + by_) s) (w := wX s) rfl (s.cpu.y + by_)
  rw [opBlockMove_eq]
  simp only [← Width.trunc_eq_and]
  exact moved.congr rfl rfl rfl rfl rfl rfl

theorem returnFromInterrupt : (returnFromInterrupt s).cpu.ModeOk := by
  have status (p : Status) (c : Cpu) : (withStatus p c).ModeOk := enforceModes_eq p c ▸ enforceModes_modeOk _
  have pulled := status (Status.ofByte ((pulled (if s.cpu.e then 3 else 4) s).1.getD 0 0))
    (pulled (if s.cpu.e then 3 else 4) s).2.cpu
  rw [returnFromInterrupt_eq]
  exact pulled.congr rfl rfl rfl rfl rfl rfl

/-- Outside the three shapes: EnforceModes ends every instruction that writes E, M or X. -/
theorem exec_of_unshaped {i : Instr} (hr : readShape i = none) (hs : storeShape i = none) (hm : rmwShape i = none)
    (h : s.cpu.ModeOk) : ∃ t, exec i s = .next t ∧ t.cpu.ModeOk := by
  cases i <;> cases hr <;> cases hs <;> cases hm
  case brkSig | copSig => exact ⟨_, rfl, h.raiseInterrupt _⟩
  case rti => exact ⟨_, rfl, returnFromInterrupt⟩
  case bplRel | bmiRel | bvcRel | bvsRel | bccRel | bcsRel | bneRel | beqRel | braRel => exact ⟨_, rfl, h.opBranch _ _⟩
  case mvnBm | mvpBm => exact ⟨_, rfl, h.opBlockMove _ _ _⟩
  case pha | phx | phy => exact ⟨_, rfl, h.pushW _ _⟩
  case php | phb | phk => exact ⟨_, rfl, h.push8 _⟩
  case phd | peaImm16 | perRell | peiDpind => exact ⟨_, rfl, push16 _ h⟩
  case pla => exact ⟨_, rfl, ((h.pullW _).setA _ _).setNZ _ _⟩
  case plx => exact ⟨_, rfl, ((h.pullW _).setX (by rw [pullW_eq]; rfl) _).setNZ _ _⟩
  case ply => exact ⟨_, rfl, ((h.pullW _).setY (by rw [pullW_eq]; rfl) _).setNZ _ _⟩
  case plb => exact ⟨_, rfl, (h.pull8.setDb _).setNZ _ _⟩
  case pld => exact ⟨_, rfl, (h.pull16.setD _).setNZ _ _⟩
  case plp | repImm | sepImm | xce => exact ⟨_, rfl, enforceModes_modeOk _⟩
  case tax | tyx | tsx | inx | dex => exact ⟨_, rfl, (h.setX rfl _).setNZ _ _⟩
  case tay | txy | iny | dey => exact ⟨_, rfl, (h.setY rfl _).setNZ _ _⟩
  case txs | tcs => exact ⟨_, rfl, h.setS _⟩
  case rts => exact ⟨_, rfl, h.pull16.setPc _⟩
  case rtl => exact ⟨_, rfl, (pull8 (h.pull16.setPc _)).setPb _⟩
  case jsrAbs | jsrAbsxind => exact ⟨_, rfl, (h.push16 _).setPc _⟩
  case jslLong => exact ⟨_, rfl, (((h.push8 _).push16 _).setPc _).setPb _⟩
  all_goals exact ⟨_, rfl, h.congr rfl rfl rfl rfl rfl rfl⟩

end Cpu.ModeOk

theorem exec_modeOk {i : Instr} {s t : State} (h : s.cpu.ModeOk) (he : exec i s = .next t) : t.cpu.ModeOk := by
  cases hr : readShape i with
  | some r =>
    cases (exec_of_readShape s hr).symm.trans he
    exact h.readMeaning _ _
  | none =>
    cases hs : storeShape i with
    | some r =>
      cases (exec_of_storeShape s hs).symm.trans he
      exact h.storeMeaning _ _
    | none =>
      cases hm : rmwShape i with
      | some r =>
        cases (exec_of_rmwShape s hm).symm.trans he
        exact h.rmwMeaning _ _
      | none =>
        obtain ⟨u, hu, hok⟩ := h.exec_of_unshaped hr hs hm
        cases hu.symm.trans he
        exact hok

theorem runInstruction_modeOk {s t : State} (h : s.cpu.ModeOk) (hr : runInstruction s = .next t) : t.cpu.ModeOk := by
  have fetched : (fetch8 (beginStep s)).2.cpu.ModeOk := h.congr rfl rfl rfl rfl rfl rfl
  obtain ⟨-, rfl⟩ | ⟨-, u, hu, rfl⟩ := runInstruction_cases hr
  · exact fetched.congr rfl rfl rfl rfl rfl rfl
  · exact (exec_modeOk (fetched.fetchBytes _) hu).congr rfl rfl rfl rfl rfl rfl

/-- Settles O43: the cases of a step, an interrupt entry and the instructions by their shapes (`exec_modeOk`). -/
theorem modesStayLegal : Obligations.ModesStayLegal := by
  intro s t h hs
  obtain ⟨-, rfl⟩ | ⟨-, k, -, rfl⟩ | ⟨-, -, -, rfl⟩ | ⟨-, -, -, hrun⟩ := step_cases hs
  · exact h.congr rfl rfl rfl rfl rfl rfl
  · have awake : ({ s.cpu with waiting := false } : Cpu).ModeOk := h.congr rfl rfl rfl rfl rfl rfl
    exact (Cpu.ModeOk.raiseInterrupt (s := { s with cpu := { s.cpu with waiting := false } }) k awake).congr
      rfl rfl rfl rfl rfl rfl
  · exact h.congr rfl rfl rfl rfl rfl rfl
  · exact runInstruction_modeOk h hrun

end Sys2Proof.Machine

/-! PROOFS. Which instructions write PB, DB, D and the flags V, M, X, D, I and C (10_state.md R33-R35, R39). -/

namespace Sys2Proof.Machine

/-- The bank registers, D and the flags other than N and Z are as before. -/
structure Cpu.SameControl (c c' : Cpu) : Prop where
  pb : c'.pb = c.pb
  db : c'.db = c.db
  d : c'.d = c.d
  v : c'.p.v = c.p.v
  m : c'.p.m = c.p.m
  x : c'.p.x = c.p.x
  decimal : c'.p.d = c.p.d
  irq : c'.p.i = c.p.i
  carry : c'.p.c = c.p.c

namespace Cpu.SameControl

/-- Where nothing named has changed, every claim about a change holds. -/
theorem claims {c c' : Cpu} (h : c.SameControl c') {p₁ p₂ p₃ p₄ p₅ p₆ p₇ p₈ p₉ : Prop} :
    (c'.pb ≠ c.pb → p₁) ∧ (c'.db ≠ c.db → p₂) ∧ (c'.d ≠ c.d → p₃) ∧ (c'.p.v ≠ c.p.v → p₄) ∧ (c'.p.m ≠ c.p.m → p₅) ∧
      (c'.p.x ≠ c.p.x → p₆) ∧ (c'.p.d ≠ c.p.d → p₇) ∧ (c'.p.i ≠ c.p.i → p₈) ∧ (c'.p.c ≠ c.p.c → p₉) :=
  ⟨absurd h.pb, absurd h.db, absurd h.d, absurd h.v, absurd h.m, absurd h.x, absurd h.decimal, absurd h.irq, absurd h.carry⟩

theorem of_eq {c c' : Cpu} (h : c' = c) : c.SameControl c' := by
  subst h
  constructor <;> rfl

variable (s : State)

/-- A reading instruction writes no more of them than V and C. -/
theorem readMeaning (op : ReadOp) (src : Src) : ({ s.cpu with p := { s.cpu.p with
    v := (op.meaning src s).cpu.p.v, c := (op.meaning src s).cpu.p.c } } : Cpu).SameControl (op.meaning src s).cpu := by
  cases op
  case ora | and | eor => simp only [ReadOp.meaning, opLogic_eq]; constructor <;> rfl
  case lda => simp only [ReadOp.meaning, opLda_eq]; constructor <;> rfl
  case ldx => simp only [ReadOp.meaning, opLdx_eq]; constructor <;> rfl
  case ldy => simp only [ReadOp.meaning, opLdy_eq]; constructor <;> rfl
  case adc => simp only [ReadOp.meaning, opAdc_eq]; constructor <;> rfl
  case sbc => simp only [ReadOp.meaning, opSbc_eq]; constructor <;> rfl
  case cmp | cpx | cpy => simp only [ReadOp.meaning, opCmp, opCpx, opCpy, opCompare_eq]; constructor <;> rfl
  case bit =>
    cases src
    case imm c => constructor <;> rfl
    case mem m => simp only [ReadOp.meaning, opBitMem_eq]; constructor <;> rfl
    case acc => constructor <;> rfl

theorem readMeaning_v (op : ReadOp) (src : Src) (h : op ∉ [ReadOp.adc, .sbc, .bit]) :
    (op.meaning src s).cpu.p.v = s.cpu.p.v := by
  cases op
  case ora | and | eor => simp only [ReadOp.meaning, opLogic_eq, nzOf]
  case lda => simp only [ReadOp.meaning, opLda_eq, nzOf]
  case ldx => simp only [ReadOp.meaning, opLdx_eq, nzOf]
  case ldy => simp only [ReadOp.meaning, opLdy_eq, nzOf]
  case cmp | cpx | cpy => simp only [ReadOp.meaning, opCmp, opCpx, opCpy, opCompare_eq, nzOf]
  case adc | sbc | bit => simp at h

theorem readMeaning_carry (op : ReadOp) (src : Src) (h : op ∉ [ReadOp.adc, .sbc, .cmp, .cpx, .cpy]) :
    (op.meaning src s).cpu.p.c = s.cpu.p.c := by
  cases op
  case ora | and | eor => simp only [ReadOp.meaning, opLogic_eq, nzOf]
  case lda => simp only [ReadOp.meaning, opLda_eq, nzOf]
  case ldx => simp only [ReadOp.meaning, opLdx_eq, nzOf]
  case ldy => simp only [ReadOp.meaning, opLdy_eq, nzOf]
  case bit =>
    cases src
    case imm c => rfl
    case mem m => simp only [ReadOp.meaning, opBitMem_eq]
    case acc => rfl
  case adc | sbc | cmp | cpx | cpy => simp at h

/-- A read-modify-write instruction writes no more of them than C. -/
theorem rmwMeaning (op : RmwOp) (m : Mode) :
    ({ s.cpu with p := { s.cpu.p with c := (op.meaning m s).cpu.p.c } } : Cpu).SameControl (op.meaning m s).cpu := by
  cases op
  case inc | dec => simp only [RmwOp.meaning, opBumpMem_eq]; constructor <;> rfl
  case asl | lsr | rol | ror => simp only [RmwOp.meaning, opShiftMem_eq]; constructor <;> rfl
  case tsb => simp only [RmwOp.meaning, opTsb_eq]; constructor <;> rfl
  case trb => simp only [RmwOp.meaning, opTrb_eq]; constructor <;> rfl

theorem rmwMeaning_carry (op : RmwOp) (m : Mode) (h : op ∉ [RmwOp.asl, .lsr, .rol, .ror]) :
    (op.meaning m s).cpu.p.c = s.cpu.p.c := by
  cases op
  case inc | dec => simp only [RmwOp.meaning, opBumpMem_eq, nzOf]
  case tsb => simp only [RmwOp.meaning, opTsb_eq]
  case trb => simp only [RmwOp.meaning, opTrb_eq]
  case asl | lsr | rol | ror => simp at h

theorem pushW (w : Width) (v : Word) : s.cpu.SameControl (pushW w v s).cpu := by
  cases w <;> constructor <;> rfl

theorem opPla : s.cpu.SameControl (opPla s).cpu := by
  rw [opPla_eq]
  constructor <;> rfl

theorem opPlx : s.cpu.SameControl (opPlx s).cpu := by
  rw [opPlx_eq]
  constructor <;> rfl

theorem opPly : s.cpu.SameControl (opPly s).cpu := by
  rw [opPly_eq]
  constructor <;> rfl

theorem opBranch (c : Bool) (r : Byte) : s.cpu.SameControl (opBranch c r s).cpu := by
  cases c <;> constructor <;> rfl

end Cpu.SameControl

/-- Who may write what among the instructions outside the three shapes, by opcode. -/
def UnshapedWriters (i : Instr) (c c' : Cpu) : Prop :=
  let is (l : List Byte) : Prop := i.opcode ∈ l
  let all : Prop := is [0xC2, 0xE2, 0x28, 0x40]
  (c'.pb ≠ c.pb → is [0x5C, 0xDC, 0x22, 0x6B, 0x00, 0x02] ∨ (is [0x40] ∧ c.e = false)) ∧
  (c'.db ≠ c.db → is [0xAB, 0x44, 0x54]) ∧
  (c'.d ≠ c.d → is [0x5B, 0x2B]) ∧
  (c'.p.v ≠ c.p.v → all ∨ is [0xB8]) ∧
  (c'.p.m ≠ c.p.m → all ∨ is [0xFB]) ∧
  (c'.p.x ≠ c.p.x → all ∨ is [0xFB]) ∧
  (c'.p.d ≠ c.p.d → all ∨ is [0xD8, 0xF8] ∨ (is [0x00, 0x02] ∧ c.e = false)) ∧
  (c'.p.i ≠ c.p.i → all ∨ is [0x58, 0x78, 0x00, 0x02]) ∧
  (c'.p.c ≠ c.p.c → all ∨ is [0x18, 0x38, 0xFB] ∨ is [0x0A, 0x2A, 0x4A, 0x6A])

/-- An instruction that writes the status as a whole, and PB in native mode alone if it is RTI. -/
theorem unshapedWriters_of_status {i : Instr} {c c' : Cpu} (hi : i.opcode ∈ ([0xC2, 0xE2, 0x28, 0x40] : List Byte))
    (pb : c'.pb ≠ c.pb → i.opcode ∈ ([0x40] : List Byte) ∧ c.e = false) (db : c'.db = c.db) (d : c'.d = c.d) :
    UnshapedWriters i c c' :=
  ⟨fun h => .inr (pb h), absurd db, absurd d, fun _ => .inl hi, fun _ => .inl hi, fun _ => .inl hi, fun _ => .inl hi,
    fun _ => .inl hi, fun _ => .inl hi⟩

/-- BRK and COP write PB and I, and D in native mode. -/
theorem unshapedWriters_raiseInterrupt {i : Instr} (hi : i.opcode ∈ ([0x00, 0x02] : List Byte)) (k : Interrupt) (s : State) :
    UnshapedWriters i s.cpu (raiseInterrupt k s).cpu := by
  have pbList : i.opcode ∈ ([0x5C, 0xDC, 0x22, 0x6B, 0x00, 0x02] : List Byte) := by simp at hi ⊢; tauto
  have iList : i.opcode ∈ ([0x58, 0x78, 0x00, 0x02] : List Byte) := by simp at hi ⊢; tauto
  rw [raiseInterrupt_eq]
  refine ⟨fun _ => .inl pbList, absurd rfl, absurd rfl, absurd rfl, absurd rfl, absurd rfl,
    fun h => .inr (.inr ⟨hi, ?native⟩), fun _ => .inr iList, absurd rfl⟩
  by_contra he
  rw [Bool.not_eq_false] at he
  exact h (by simp [he])

theorem unshapedWriters_rti (s : State) : UnshapedWriters .rti s.cpu (returnFromInterrupt s).cpu := by
  rw [returnFromInterrupt_eq]
  refine unshapedWriters_of_status (by simp [Instr.opcode]) (fun h => ⟨by simp [Instr.opcode], ?native⟩) rfl rfl
  by_contra he
  rw [Bool.not_eq_false] at he
  exact h (if_pos he)

/-- XCE writes C, and M and X by EnforceModes. -/
theorem unshapedWriters_xce (s : State) : UnshapedWriters .xce s.cpu (opXce s).cpu := by
  have others : ∀ p : Status, ∀ e : Bool,
      let q : Status := if e then { p with m := true, x := true } else p
      q.v = p.v ∧ q.d = p.d ∧ q.i = p.i := by
    intro p e
    cases e <;> exact ⟨rfl, rfl, rfl⟩
  obtain ⟨hv, hd, hi⟩ := others { s.cpu.p with c := s.cpu.e } s.cpu.p.c
  exact ⟨absurd rfl, absurd rfl, absurd rfl, absurd hv, fun _ => .inr (by simp [Instr.opcode]),
    fun _ => .inr (by simp [Instr.opcode]), absurd hd, absurd hi, fun _ => .inr (.inl (by simp [Instr.opcode]))⟩

theorem exec_unshapedWriters {i : Instr} (hr : readShape i = none) (hs : storeShape i = none) (hm : rmwShape i = none)
    (s : State) : ∃ t, exec i s = .next t ∧ UnshapedWriters i s.cpu t.cpu := by
  cases i <;> cases hr <;> cases hs <;> cases hm
  case bplRel | bmiRel | bvcRel | bvsRel | bccRel | bcsRel | bneRel | beqRel | braRel =>
    exact ⟨_, rfl, (Cpu.SameControl.opBranch s _ _).claims⟩
  case pha | phx | phy => exact ⟨_, rfl, (Cpu.SameControl.pushW s _ _).claims⟩
  case pla => exact ⟨_, rfl, (Cpu.SameControl.opPla s).claims⟩
  case plx => exact ⟨_, rfl, (Cpu.SameControl.opPlx s).claims⟩
  case ply => exact ⟨_, rfl, (Cpu.SameControl.opPly s).claims⟩
  case brkSig | copSig => exact ⟨_, rfl, unshapedWriters_raiseInterrupt (by simp [Instr.opcode]) _ s⟩
  case rti => exact ⟨_, rfl, unshapedWriters_rti s⟩
  case plp | repImm | sepImm =>
    exact ⟨_, rfl, unshapedWriters_of_status (by simp [Instr.opcode]) (absurd rfl) rfl rfl⟩
  case mvnBm | mvpBm =>
    refine ⟨_, rfl, ?_⟩
    rw [opBlockMove_eq]
    exact ⟨absurd rfl, fun _ => by simp [Instr.opcode], absurd rfl, absurd rfl, absurd rfl, absurd rfl,
      absurd rfl, absurd rfl, absurd rfl⟩
  case aslAcc | lsrAcc | rolAcc | rorAcc =>
    exact ⟨_, rfl, absurd rfl, absurd rfl, absurd rfl, absurd rfl, absurd rfl, absurd rfl, absurd rfl, absurd rfl,
      fun _ => .inr (.inr (by simp [Instr.opcode]))⟩
  case jmlLong | jmlAbsindl | jslLong | rtl =>
    exact ⟨_, rfl, fun _ => .inl (by simp [Instr.opcode]), absurd rfl, absurd rfl, absurd rfl, absurd rfl, absurd rfl,
      absurd rfl, absurd rfl, absurd rfl⟩
  case plb =>
    exact ⟨_, rfl, absurd rfl, fun _ => by simp [Instr.opcode], absurd rfl, absurd rfl, absurd rfl, absurd rfl,
      absurd rfl, absurd rfl, absurd rfl⟩
  case tcd | pld =>
    exact ⟨_, rfl, absurd rfl, absurd rfl, fun _ => by simp [Instr.opcode], absurd rfl, absurd rfl, absurd rfl,
      absurd rfl, absurd rfl, absurd rfl⟩
  case clv =>
    exact ⟨_, rfl, absurd rfl, absurd rfl, absurd rfl, fun _ => .inr (by simp [Instr.opcode]), absurd rfl, absurd rfl,
      absurd rfl, absurd rfl, absurd rfl⟩
  case cld | sed =>
    exact ⟨_, rfl, absurd rfl, absurd rfl, absurd rfl, absurd rfl, absurd rfl, absurd rfl,
      fun _ => .inr (.inl (by simp [Instr.opcode])), absurd rfl, absurd rfl⟩
  case cli | sei =>
    exact ⟨_, rfl, absurd rfl, absurd rfl, absurd rfl, absurd rfl, absurd rfl, absurd rfl, absurd rfl,
      fun _ => .inr (by simp [Instr.opcode]), absurd rfl⟩
  case clc | sec =>
    exact ⟨_, rfl, absurd rfl, absurd rfl, absurd rfl, absurd rfl, absurd rfl, absurd rfl, absurd rfl, absurd rfl,
      fun _ => .inr (.inl (by simp [Instr.opcode]))⟩
  case xce => exact ⟨_, rfl, unshapedWriters_xce s⟩
  all_goals
    exact ⟨_, rfl, absurd rfl, absurd rfl, absurd rfl, absurd rfl, absurd rfl, absurd rfl, absurd rfl, absurd rfl,
      absurd rfl⟩

/-- Settles O47: the instructions of the shapes write V and C alone of these, and only where their operation says so; the others are
taken one by one (`exec_unshapedWriters`). -/
theorem whoWritesWhat : Obligations.WhoWritesWhat := by
  intro i s t h is reads shifts all
  cases hr : readShape i with
  | some r =>
    cases (exec_of_readShape s hr).symm.trans h
    have same := Cpu.SameControl.readMeaning s r.1 r.2
    have vWriter (hv : (r.1.meaning r.2 s).cpu.p.v ≠ s.cpu.p.v) : reads [.adc, .sbc, .bit] :=
      ⟨r.1, r.2, hr, by_contra fun hop => hv (Cpu.SameControl.readMeaning_v s _ _ hop)⟩
    have cWriter (hc : (r.1.meaning r.2 s).cpu.p.c ≠ s.cpu.p.c) : reads [.adc, .sbc, .cmp, .cpx, .cpy] :=
      ⟨r.1, r.2, hr, by_contra fun hop => hc (Cpu.SameControl.readMeaning_carry s _ _ hop)⟩
    exact ⟨absurd same.pb, absurd same.db, absurd same.d, fun hv => .inr (.inr (vWriter hv)), absurd same.m, absurd same.x,
      absurd same.decimal, absurd same.irq, fun hc => .inr (.inr (.inr (cWriter hc)))⟩
  | none =>
    cases hs : storeShape i with
    | some r =>
      cases (exec_of_storeShape s hs).symm.trans h
      exact (Cpu.SameControl.of_eq (r.1.meaning_cpu s r.2)).claims
    | none =>
      cases hm : rmwShape i with
      | some r =>
        cases (exec_of_rmwShape s hm).symm.trans h
        have same := Cpu.SameControl.rmwMeaning s r.1 r.2
        have cWriter (hc : (r.1.meaning r.2 s).cpu.p.c ≠ s.cpu.p.c) : shifts :=
          .inr ⟨r.1, r.2, hm, by_contra fun hop => hc (Cpu.SameControl.rmwMeaning_carry s _ _ hop)⟩
        exact ⟨absurd same.pb, absurd same.db, absurd same.d, absurd same.v, absurd same.m, absurd same.x,
          absurd same.decimal, absurd same.irq, fun hc => .inr (.inr (.inl (cWriter hc)))⟩
      | none =>
        obtain ⟨u, hu, pb, db, d, v, m, x, decimal, irq, c⟩ := exec_unshapedWriters hr hs hm s
        cases hu.symm.trans h
        exact ⟨pb, db, d, fun hv => (v hv).imp_right .inl, m, x, decimal, irq,
          fun hc => (c hc).imp_right (.imp_right fun hacc => .inl (.inl hacc))⟩

end Sys2Proof.Machine

/-! PROOFS. A step always answers, keeps the scheduler's state and the parameters, and reads no more of the scheduler's state than it
writes: nothing (60_exceptions.md R560, R610, R625). -/

namespace Sys2Proof.Machine

/-- The same machine under another scheduler and host state. -/
def withSched (q : Sched) (s : State) : State := { s with sched := q }

section
variable (q : Sched) (s : State)

@[simp] theorem withSched_cpu : (withSched q s).cpu = s.cpu := rfl
@[simp] theorem withSched_bus : (withSched q s).bus = s.bus := rfl
@[simp] theorem withSched_params : (withSched q s).params = s.params := rfl

/-! ### The shared operations do not read it -/

theorem readEa_withSched (e : Ea) (w : Width) :
    readEa e w (withSched q s) = ((readEa e w s).1, withSched q (readEa e w s).2) := by
  cases w <;> rfl

theorem writeEa_withSched (e : Ea) (w : Width) (v : Word) :
    writeEa e w v (withSched q s) = withSched q (writeEa e w v s) := by
  cases w <;> rfl

theorem effAddr_withSched (m : Mode) : effAddr m (withSched q s) = ((effAddr m s).1, withSched q (effAddr m s).2) := by
  cases m <;> rfl

theorem operand_withSched (src : Src) (w : Width) :
    operand src w (withSched q s) = ((operand src w s).1, withSched q (operand src w s).2) := by
  cases src with
  | imm c => rfl
  | acc => rfl
  | mem m => simp only [operand, effAddr_withSched, readEa_withSched]

theorem storeAt_withSched (e : Ea) (w : Width) (v : Word) : storeAt e w v (withSched q s) = storeAt e w v s := by
  cases e <;> cases w <;> rfl

theorem pushW_withSched (w : Width) (v : Word) : pushW w v (withSched q s) = withSched q (pushW w v s) := by
  cases w <;> rfl

theorem pullW_withSched (w : Width) : pullW w (withSched q s) = ((pullW w s).1, withSched q (pullW w s).2) := by
  cases w <;> rfl

theorem fetchBytes_withSched (n : Nat) :
    fetchBytes n (withSched q s) = ((fetchBytes n s).1, withSched q (fetchBytes n s).2) := by
  induction n generalizing s with
  | zero => rfl
  | succ n ih =>
    have h := ih (fetch8 s).2
    simp only [fetchBytes, show fetch8 (withSched q s) = ((fetch8 s).1, withSched q (fetch8 s).2) from rfl, h]

theorem raiseInterrupt_withSched (k : Interrupt) : raiseInterrupt k (withSched q s) = withSched q (raiseInterrupt k s) := by
  rw [raiseInterrupt_eq, raiseInterrupt_eq]
  rfl

theorem returnFromInterrupt_withSched : returnFromInterrupt (withSched q s) = withSched q (returnFromInterrupt s) := by
  rw [returnFromInterrupt_eq, returnFromInterrupt_eq]
  rfl

/-! ### Nor does an instruction -/

theorem readMeaning_withSched (op : ReadOp) (src : Src) :
    op.meaning src (withSched q s) = withSched q (op.meaning src s) := by
  have operands (w : Width) : operand src w (withSched q s) = _ := operand_withSched q s src w
  cases op
  case ora | and | eor => simp only [ReadOp.meaning, opLogic_eq, operands]; rfl
  case lda => simp only [ReadOp.meaning, opLda_eq, operands]; rfl
  case ldx => simp only [ReadOp.meaning, opLdx_eq, operands]; rfl
  case ldy => simp only [ReadOp.meaning, opLdy_eq, operands]; rfl
  case adc => simp only [ReadOp.meaning, opAdc_eq, operands]; rfl
  case sbc => simp only [ReadOp.meaning, opSbc_eq, operands]; rfl
  case cmp | cpx | cpy => simp only [ReadOp.meaning, opCmp, opCpx, opCpy, opCompare_eq, operands]; rfl
  case bit =>
    cases src
    case imm c => rfl
    case mem m => simp only [ReadOp.meaning, opBitMem_eq, operands]; rfl
    case acc => rfl

theorem storeMeaning_withSched (r : Stored) (m : Mode) : r.meaning m (withSched q s) = withSched q (r.meaning m s) := by
  have store (w : Width) (v : Word) : opStore m w v (withSched q s) = withSched q (opStore m w v s) := by
    simp only [opStore, effAddr_withSched, writeEa_withSched]
  cases r <;> exact store _ _

theorem rmwMeaning_withSched (op : RmwOp) (m : Mode) :
    op.meaning m (withSched q s) = withSched q (op.meaning m s) := by
  have same := And.intro (operand_withSched q s (.mem m)) (And.intro (effAddr_withSched q s m) (storeAt_withSched q))
  cases op
  case inc | dec => simp only [RmwOp.meaning, opBumpMem_eq, withSched_cpu, same]; rfl
  case asl | lsr | rol | ror => simp only [RmwOp.meaning, opShiftMem_eq, withSched_cpu, same]; rfl
  case tsb => simp only [RmwOp.meaning, opTsb_eq, withSched_cpu, same]; rfl
  case trb => simp only [RmwOp.meaning, opTrb_eq, withSched_cpu, same]; rfl

theorem opBranch_withSched (c : Bool) (r : Byte) : opBranch c r (withSched q s) = withSched q (opBranch c r s) := by
  cases c <;> rfl

theorem opBlockMove_withSched (by_ : Word) (dst src : Byte) :
    opBlockMove by_ dst src (withSched q s) = withSched q (opBlockMove by_ dst src s) := by
  rw [opBlockMove_eq, opBlockMove_eq]
  rfl

theorem opPla_withSched : opPla (withSched q s) = withSched q (opPla s) := by
  simp only [opPla, wM, withSched_cpu, pullW_withSched]
  rfl

theorem opPlx_withSched : opPlx (withSched q s) = withSched q (opPlx s) := by
  simp only [opPlx, wX, withSched_cpu, pullW_withSched]
  rfl

theorem opPly_withSched : opPly (withSched q s) = withSched q (opPly s) := by
  simp only [opPly, wX, withSched_cpu, pullW_withSched]
  rfl

theorem exec_withSched_of_unshaped {i : Instr} (hr : readShape i = none) (hs : storeShape i = none)
    (hm : rmwShape i = none) : ∃ t, exec i s = .next t ∧ exec i (withSched q s) = .next (withSched q t) := by
  cases i <;> cases hr <;> cases hs <;> cases hm
  case brkSig | copSig => exact ⟨_, rfl, congrArg _ (raiseInterrupt_withSched q s _)⟩
  case rti => exact ⟨_, rfl, congrArg _ (returnFromInterrupt_withSched q s)⟩
  case bplRel | bmiRel | bvcRel | bvsRel | bccRel | bcsRel | bneRel | beqRel | braRel =>
    exact ⟨_, rfl, congrArg _ (opBranch_withSched q s _ _)⟩
  case mvnBm | mvpBm => exact ⟨_, rfl, congrArg _ (opBlockMove_withSched q s _ _ _)⟩
  case pha | phx | phy => exact ⟨_, rfl, congrArg _ (pushW_withSched q s _ _)⟩
  case pla => exact ⟨_, rfl, congrArg _ (opPla_withSched q s)⟩
  case plx => exact ⟨_, rfl, congrArg _ (opPlx_withSched q s)⟩
  case ply => exact ⟨_, rfl, congrArg _ (opPly_withSched q s)⟩
  all_goals exact ⟨_, rfl, rfl⟩

theorem exec_withSched (i : Instr) : ∃ t, exec i s = .next t ∧ exec i (withSched q s) = .next (withSched q t) := by
  cases hr : readShape i with
  | some r =>
    exact ⟨_, exec_of_readShape s hr, (exec_of_readShape _ hr).trans (congrArg _ (readMeaning_withSched q s r.1 r.2))⟩
  | none =>
    cases hs : storeShape i with
    | some r =>
      exact ⟨_, exec_of_storeShape s hs, (exec_of_storeShape _ hs).trans (congrArg _ (storeMeaning_withSched q s r.1 r.2))⟩
    | none =>
      cases hm : rmwShape i with
      | some r =>
        exact ⟨_, exec_of_rmwShape s hm, (exec_of_rmwShape _ hm).trans (congrArg _ (rmwMeaning_withSched q s r.1 r.2))⟩
      | none => exact exec_withSched_of_unshaped q s hr hs hm

/-! ### Nor does a step -/

theorem fetchOperands_withSched (op : Byte) :
    fetchOperands op (withSched q s) = ((fetchOperands op s).1, withSched q (fetchOperands op s).2) := by
  simp only [fetchOperands, withSched_cpu, fetchBytes_withSched]

theorem runInstruction_withSched :
    ∃ t, runInstruction s = .next t ∧ runInstruction (withSched q s) = .next (withSched q t) := by
  have fetched : fetch8 (beginStep (withSched q s)) =
      ((fetch8 (beginStep s)).1, withSched q (fetch8 (beginStep s)).2) := rfl
  obtain ⟨t, ht, hq⟩ := exec_withSched q (fetchOperands (fetch8 (beginStep s)).1 (fetch8 (beginStep s)).2).2
    (fetchOperands (fetch8 (beginStep s)).1 (fetch8 (beginStep s)).2).1
  by_cases hu : (fetch8 (beginStep s)).1 ∈ s.params.unimplemented
  · refine ⟨decodeMiss (fetch8 (beginStep s)).2, by simp only [runInstruction, if_pos hu], ?_⟩
    simp only [runInstruction, fetched, withSched_params, if_pos hu]
    rfl
  · refine ⟨finishStep (baseCycles (fetch8 (beginStep s)).1) t, by simp only [runInstruction, if_neg hu, ht, finish], ?_⟩
    simp only [runInstruction, fetched, withSched_params, if_neg hu, fetchOperands_withSched, hq, finish]
    rfl

theorem interruptStep_withSched (k : Interrupt) :
    interruptStep k (withSched q s) = withSched q (interruptStep k s) :=
  congrArg (addCycles (if s.cpu.e then 7 else 8))
    (raiseInterrupt_withSched q { s with cpu := { s.cpu with waiting := false } } k)

theorem step_withSched : ∃ t, step s = .next t ∧ step (withSched q s) = .next (withSched q t) := by
  unfold step
  rw [withSched_cpu]
  split
  · exact ⟨_, rfl, rfl⟩
  · split
    · exact ⟨_, rfl, congrArg Host.Outcome.next (interruptStep_withSched q s _)⟩
    · split
      · exact ⟨_, rfl, rfl⟩
      · exact runInstruction_withSched q s

end

/-- What every step keeps, whatever its case. -/
theorem step_keeps {s t : State} (h : step s = .next t) : t.sched = s.sched ∧ t.params = s.params := by
  obtain ⟨-, rfl⟩ | ⟨-, k, -, rfl⟩ | ⟨-, -, -, rfl⟩ | ⟨-, -, -, hrun⟩ := step_cases h
  · exact ⟨rfl, rfl⟩
  · have entry := (Keeps.refl { s with cpu := { s.cpu with waiting := false } }).raiseInterrupt k
    exact ⟨entry.sched, entry.params⟩
  · exact ⟨rfl, rfl⟩
  · have begun : Keeps (beginStep s) (fetch8 (beginStep s)).2 := (Keeps.refl _).fetch8
    obtain ⟨-, rfl⟩ | ⟨-, u, hu, rfl⟩ := runInstruction_cases hrun
    · exact ⟨begun.sched, begun.params⟩
    · obtain ⟨v, hv, keeps⟩ := exec_keeps _ _
      cases hv.symm.trans hu
      have executed := (begun.fetchBytes _).trans keeps
      exact ⟨executed.sched, executed.params⟩

/-- Settles O49: no shared operation, hence no instruction and no step, reads the scheduler's state (`step_withSched`), and none
writes it (`step_keeps`). -/
theorem stepIgnoresScheduler : Obligations.StepIgnoresScheduler := by
  intro s
  obtain ⟨t, ht, -⟩ := step_withSched s.sched s
  refine ⟨t, ht, (step_keeps ht).1, (step_keeps ht).2, fun q => ?_⟩
  obtain ⟨u, hu, hq⟩ := step_withSched q s
  cases hu.symm.trans ht
  exact hq

end Sys2Proof.Machine

/-! PROOFS. Fetches, effective addresses and operands, and what a read leaves as it is (00_scope.md R14, R15; 20_memory.md R153;
40_addressing_load_store.md R250-R268). -/

namespace Sys2Proof.Machine

/-! ### A read with no side effect (20_memory.md R153) -/

/-- What a quiet address reads as depends on the store alone. -/
theorem readReg_of_sameStore {b b' : Bus} (h : b.SameStore b') {off : Nat} (hq : (Target.reg off).quiet = true) :
    (b'.readReg off).1 = (b.readReg off).1 := by
  simp only [Target.quiet, Bool.not_eq_true', Bool.or_eq_false_iff, beq_eq_false_iff_ne, ne_eq] at hq
  obtain ⟨⟨⟨h1, h2⟩, h3⟩, h4⟩ := hq
  simp only [Bus.readReg, if_neg h1, if_neg h2, if_neg h3, if_neg h4, h.apuPort0, h.apuPort1, h.apuPort2, h.apuPort3,
    h.inVblank, Bus.regAt, h.regs, apply_ite Prod.fst]

theorem rd8_of_sameStore {b b' : Bus} (h : b.SameStore b') {a : Addr} (hq : (b.target a).quiet = true) :
    (b'.rd8 a).1 = (b.rd8 a).1 := by
  have size : b'.saveRamSize = b.saveRamSize := by simp only [Bus.saveRamSize, h.cart]
  unfold Bus.rd8
  rw [target_of_cart h.cart]
  cases ht : b.target a with
  | wram i => simp only [Bus.readTarget, h.wram]
  | sram i => simp only [Bus.readTarget, h.sram, size, apply_ite Prod.fst]
  | rom o => simp only [Bus.readTarget, Bus.romByte, h.cart]
  | reg off => exact readReg_of_sameStore h (ht ▸ hq)
  | unmapped => rfl

theorem Bus.SameStore.trans {b b' b'' : Bus} (h : b.SameStore b') (g : b'.SameStore b'') : b.SameStore b'' where
  wram := g.wram.trans h.wram
  sram := g.sram.trans h.sram
  cart := g.cart.trans h.cart
  regs := g.regs.trans h.regs
  vram := g.vram.trans h.vram
  cgram := g.cgram.trans h.cgram
  oam := g.oam.trans h.oam
  inVblank := g.inVblank.trans h.inVblank
  apuPort0 := g.apuPort0.trans h.apuPort0
  apuPort1 := g.apuPort1.trans h.apuPort1
  apuPort2 := g.apuPort2.trans h.apuPort2
  apuPort3 := g.apuPort3.trans h.apuPort3
  dmaBytes := g.dmaBytes.trans h.dmaBytes

/-! ### Fetch -/

/-- A fetch moves PC on and reads. -/
theorem fetchBytes_state (n : Nat) (s : State) : (fetchBytes n s).2 =
    { s with cpu := { s.cpu with pc := s.cpu.pc + BitVec.ofNat 16 n }, bus := (fetchBytes n s).2.bus } := by
  induction n generalizing s with
  | zero => simp [fetchBytes]
  | succ n ih =>
    have pc : s.cpu.pc + 1 + BitVec.ofNat 16 n = s.cpu.pc + BitVec.ofNat 16 (n + 1) := by
      rw [Nat.add_comm n 1, BitVec.ofNat_add, BitVec.add_assoc]
      rfl
    rw [← pc]
    exact ih (fetch8 s).2

/-- Settles O5: where the reads are quiet, each byte reads as it did before the first of them (`rd8_of_sameStore`). -/
theorem fetchReadsAtProgramCounter : Obligations.FetchReadsAtProgramCounter := by
  intro n s
  refine ⟨fetchBytes_state n s, ?_⟩
  induction n generalizing s with
  | zero => intro _; rfl
  | succ n ih =>
    intro hq
    have sameStore : s.bus.SameStore (fetch8 s).2.bus := rd8_sameStore _ _
    have addr (k : Nat) : addrOf s.cpu.pb (s.cpu.pc + 1 + BitVec.ofNat 16 k) =
        addrOf s.cpu.pb (s.cpu.pc + BitVec.ofNat 16 (k + 1)) := by
      rw [Nat.add_comm k 1, BitVec.ofNat_add, ← BitVec.add_assoc]
      rfl
    have rest := ih (fetch8 s).2 fun k hk => by
      rw [target_of_cart sameStore.cart, show (fetch8 s).2.cpu.pc = s.cpu.pc + 1 from rfl, show (fetch8 s).2.cpu.pb = s.cpu.pb from rfl, addr]
      exact hq (k + 1) (by omega)
    calc (fetchBytes (n + 1) s).1
        = (s.bus.rd8 (addrOf s.cpu.pb s.cpu.pc)).1 :: (fetchBytes n (fetch8 s).2).1 := rfl
      _ = (s.bus.rd8 (addrOf s.cpu.pb s.cpu.pc)).1 ::
            (List.range n).map fun k => (s.bus.rd8 (addrOf s.cpu.pb (s.cpu.pc + BitVec.ofNat 16 (k + 1)))).1 := by
          rw [rest]
          congr 1
          refine List.map_congr_left fun k hk => ?_
          rw [show addrOf (fetch8 s).2.cpu.pb ((fetch8 s).2.cpu.pc + BitVec.ofNat 16 k) = _ from addr k]
          exact rd8_of_sameStore sameStore (hq (k + 1) (by have := List.mem_range.mp hk; omega))
      _ = (List.range (n + 1)).map fun k => (s.bus.rd8 (addrOf s.cpu.pb (s.cpu.pc + BitVec.ofNat 16 k))).1 := by
          rw [List.range_succ_eq_map, List.map_cons, List.map_map, BitVec.add_zero]
          rfl

/-! ### Steps -/

/-- What the step does that is not idle and takes no interrupt (30_encoding.md R212). -/
theorem step_eq_runInstruction {s : State} (hs : s.cpu.stopped = false) (hk : pendingInterrupt s.cpu = none)
    (hw : s.cpu.waiting = true → s.cpu.irqPending = true) : step s = runInstruction s := by
  have waits : waitsOn s.cpu = false := by
    cases h : s.cpu.waiting
    case false => simp [waitsOn, h]
    case true => simp [waitsOn, hw h]
  simp [step, hs, hk, waits]

/-- Settles O6: decoding the fetched bytes names the opcode and the operand bytes (`decode_eq_ok`) that `runInstruction` fetches. -/
theorem stepRunsTheDecodedInstruction : Obligations.StepRunsTheDecodedInstruction := by
  intro i bytes s hs hk hw hi s0 hf hd
  refine ⟨?_, fun t => rfl⟩
  obtain ⟨op, bs, hbs, rfl, rfl⟩ := (decode_eq_ok _ _).mp hd
  rw [List.append_nil] at hf ⊢
  obtain ⟨hop, htail⟩ := List.cons_eq_cons.mp hf
  have fetched : (fetch8 (beginStep s)).1 = op := hop
  have operands : fetchOperands op (fetch8 (beginStep s)).2 =
      (instrOf op (leAddr bs), (fetchBytes bs.length (fetch8 (beginStep s)).2).2) :=
    (congrArg (fun n => (instrOf op (leAddr (fetchBytes n _).1), (fetchBytes n _).2)) hbs.symm).trans
      (congrArg (fun b => (instrOf op (leAddr b), _)) htail)
  rw [instrOf_opcode] at hi ⊢
  rw [step_eq_runInstruction hs hk hw, runInstruction, fetched, if_neg hi, operands]
  rfl

/-- Settles O7: each clause is one branch of `step`, the last one the miss of `runInstruction`. -/
theorem stepsWithoutAnInstruction : Obligations.StepsWithoutAnInstruction := by
  intro s idle
  refine ⟨fun hs => ?stopped, fun hs hn => ?nmi, fun hs hn hi hp => ?irq, fun hs hn hi hw => ?waiting,
    fun hs hn hi hw hu => ?miss⟩
  case stopped => simp only [step, hs]; rfl
  case nmi => simp [step, hs, pendingInterrupt, hn]
  case irq => simp [step, hs, pendingInterrupt, hn, hi, hp]
  case waiting =>
    simp [step, hs, pendingInterrupt, hn, hi, waitsOn, hw]
    rfl
  case miss =>
    have none_ : pendingInterrupt s.cpu = none := by
      cases h : s.cpu.irqPending
      case false => simp [pendingInterrupt, hn, h]
      case true => simp [pendingInterrupt, hn, hi h]
    rw [step_eq_runInstruction hs none_ hw, runInstruction, if_pos (show (fetch8 (beginStep s)).1 ∈ _ from hu)]
    rfl

/-! ### Effective addresses -/

section
variable (n : Nat) (v : Word) (u : Addr) (c : Cpu) (d : Byte)

theorem ofNat_add_word : BitVec.ofNat 16 n + v = BitVec.ofNat 16 (n + v.toNat) := by
  apply BitVec.eq_of_toNat_eq
  simp

/-- An index is added to a linear address modulo 2^24. -/
theorem add_zext24 : u + zext24 v = BitVec.ofNat 24 (u.toNat + v.toNat) := by
  apply BitVec.eq_of_toNat_eq
  simp [zext24]

theorem ofNat_add_zext24 : BitVec.ofNat 24 n + zext24 v = BitVec.ofNat 24 (n + v.toNat) := by
  rw [add_zext24]
  apply BitVec.eq_of_toNat_eq
  simp

theorem directPage_eq : directPage c d = BitVec.ofNat 16 (c.d.toNat + d.toNat) := by
  apply BitVec.eq_of_toNat_eq
  simp [directPage]

theorem stackRelative_eq : stackRelative c d = BitVec.ofNat 16 (c.s.toNat + d.toNat) := by
  apply BitVec.eq_of_toNat_eq
  simp [stackRelative]

theorem dataAddr_eq : dataAddr c v = BitVec.ofNat 24 (65536 * c.db.toNat + v.toNat) := by
  have := c.db.isLt
  have := v.isLt
  apply BitVec.eq_of_toNat_eq
  simp [dataAddr]
  omega

theorem memRead0_two_lt (s : State) : (memRead0 n 2 s).1 < 2 ^ 16 := readNat_lt _ 2 0 s

/-- A pointer's word put under DB. -/
theorem dataAddr_memRead0 (s : State) :
    dataAddr c (BitVec.ofNat 16 (memRead0 n 2 s).1) = BitVec.ofNat 24 (65536 * c.db.toNat + (memRead0 n 2 s).1) := by
  rw [dataAddr_eq, BitVec.toNat_ofNat, Nat.mod_eq_of_lt (memRead0_two_lt n s)]

theorem readWord_ofNat (s : State) :
    readWord (.bank0 (BitVec.ofNat 16 n)) s = (BitVec.ofNat 16 (memRead0 n 2 s).1, (memRead0 n 2 s).2) := by
  rw [readWord_bank0, BitVec.toNat_ofNat, memRead0_mod]

theorem readLong_ofNat (s : State) :
    readLong (.bank0 (BitVec.ofNat 16 n)) s = (BitVec.ofNat 24 (memRead0 n 3 s).1, (memRead0 n 3 s).2) := by
  rw [readLong_bank0, BitVec.toNat_ofNat, memRead0_mod]

end

/-- Settles O8: each base address and index addition as a number cut to its width, each pointer a read in bank 0. -/
theorem effectiveAddresses : Obligations.EffectiveAddresses := by
  intro s
  refine ⟨fun d => ?direct, fun a => ?absolute, fun al => ?long⟩
  case direct =>
    simp only [effAddr, directPage_eq, stackRelative_eq, ofNat_add_word, readWord_ofNat, readLong_ofNat, dataAddr_memRead0,
      ofNat_add_zext24, and_self]
  case absolute => simp only [effAddr, dataAddr_eq, ofNat_add_zext24, and_self]
  case long => simp only [effAddr, add_zext24, and_self]

/-! ### Operands -/

/-- Settles O9: immediates and the accumulator are cut to the width (`Width.trunc_eq_and`), memory is read by `readEa_eq`. -/
theorem operandValues : Obligations.OperandValues := by
  intro w s
  refine ⟨fun c => ?imm, ?acc, fun m => ⟨?mem, effAddr_state m s, ?state⟩⟩
  case imm | acc => rw [operand, Width.trunc_eq_and]
  case mem => exact readEa_eq _ w _
  case state => rw [readAt_state, effAddr_state]

/-! ### The frame of the reading instructions -/

/-- What a reading instruction does beside the reads of its operand concerns the CPU alone. -/
theorem readMeaning_frame (op : ReadOp) (src : Src) (s : State) :
    ∃ w c, op.meaning src s = { s with bus := (operand src w s).2.bus, cpu := c } ∨ op.meaning src s = { s with cpu := c } := by
  cases op
  case ora | and | eor => exact ⟨_, _, .inl (opLogic_eq _ src s)⟩
  case adc => exact ⟨_, _, .inl (opAdc_eq src s)⟩
  case sbc => exact ⟨_, _, .inl (opSbc_eq src s)⟩
  case lda => exact ⟨_, _, .inl (opLda_eq s src)⟩
  case ldx => exact ⟨_, _, .inl (opLdx_eq s src)⟩
  case ldy => exact ⟨_, _, .inl (opLdy_eq s src)⟩
  case cmp | cpx | cpy => exact ⟨_, _, .inl (opCompare_eq _ _ src s)⟩
  case bit =>
    cases src
    case imm c => exact ⟨.w8, _, .inr rfl⟩
    case mem m => exact ⟨_, _, .inl (opBitMem_eq s m)⟩
    case acc => exact ⟨.w8, s.cpu, .inr rfl⟩

theorem readWord_sameStore (e : Ea) (s : State) : s.bus.SameStore (readWord e s).2.bus :=
  (rd8_sameStore _ _).trans (rd8_sameStore _ _)

theorem readLong_sameStore (e : Ea) (s : State) : s.bus.SameStore (readLong e s).2.bus :=
  (readWord_sameStore e s).trans (rd8_sameStore _ _)

theorem readEa_sameStore (e : Ea) (w : Width) (s : State) : s.bus.SameStore (readEa e w s).2.bus := by
  cases w
  case w8 => exact rd8_sameStore _ _
  case w16 => exact readWord_sameStore e s

theorem effAddr_sameStore (m : Mode) (s : State) : s.bus.SameStore (effAddr m s).2.bus := by
  cases m
  case dp | dpx | dpy | sr | abs | absx | absy | long | longx => exact .refl _
  case dpind | dpxind | dpindy | sriy => exact readWord_sameStore _ s
  case dpindl | dpindly => exact readLong_sameStore _ s

theorem operand_sameStore (src : Src) (w : Width) (s : State) : s.bus.SameStore (operand src w s).2.bus := by
  cases src
  case imm | acc => exact .refl _
  case mem m => exact (effAddr_sameStore m s).trans (readEa_sameStore _ w _)

/-- The reads of an operand are all that a reading instruction does to the bus. -/
theorem readMeaning_sameStore (op : ReadOp) (src : Src) (s : State) : s.bus.SameStore (op.meaning src s).bus := by
  obtain ⟨w, c, h | h⟩ := readMeaning_frame op src s
  · rw [h]
    exact operand_sameStore src w s
  · rw [h]
    exact .refl _

/-- Settles O17: the bus holds the same store afterwards (`readMeaning_sameStore`), which every quiet read goes by. -/
theorem readingFrame : Obligations.ReadingFrame := by
  intro i op src s h
  have same := readMeaning_sameStore op src s
  obtain ⟨t, ht, keeps⟩ := exec_keeps i s
  cases ht.symm.trans (exec_of_readShape s h)
  exact ⟨_, exec_of_readShape s h, fun a hq => rd8_of_sameStore same hq, fun off => by rw [Bus.regAt, same.regs, Bus.regAt],
    fun k => by rw [Ppu.vramWord, same.vram, Ppu.vramWord], same.cgram, same.oam, same.cart, keeps.sched, keeps.params⟩

end Sys2Proof.Machine

/-! PROOFS. The binary adder as exact addition and subtraction (42_arithmetic_compare.md R330). -/

namespace Sys2Proof.Machine

namespace Width

variable (w : Width) (v : Word)

theorem trunc_toNat : (w.trunc v).toNat = v.toNat % 2 ^ w.bits := by
  cases w
  case w8 => simp [trunc, bits]
  case w16 => exact (Nat.mod_eq_of_lt v.isLt).symm

theorem mask_eq : w.mask = 2 ^ w.bits - 1 := by cases w <;> rfl

variable {w v}

/-- A value is within a width if its number is. -/
theorem and_ones_eq_iff : v &&& w.ones = v ↔ v.toNat < 2 ^ w.bits := by
  have h := w.trunc_toNat v
  have pos : 0 < 2 ^ w.bits := by positivity
  rw [← trunc_eq_and]
  constructor
  · intro hv
    rw [hv] at h
    exact h ▸ Nat.mod_lt _ pos
  · intro hv
    exact BitVec.eq_of_toNat_eq (h.trans (Nat.mod_eq_of_lt hv))

/-- The complement at a width as a number. -/
theorem xor_ones_toNat (h : v &&& w.ones = v) : (v ^^^ w.ones).toNat = 2 ^ w.bits - 1 - v.toNat := by
  have hlt := and_ones_eq_iff.mp h
  rw [← compl_eq_xor h, compl, trunc_toNat, BitVec.toNat_not]
  cases w
  all_goals
    simp only [bits] at hlt ⊢
    omega

end Width

/-! ### Signed values -/

/-- The sign bit at a width. -/
theorem getLsbD_eq_decide (v : Word) (k : Nat) : v.getLsbD k = decide (v.toNat / 2 ^ k % 2 = 1) := by
  rw [BitVec.getLsbD, Nat.testBit_eq_decide_div_mod_eq]

theorem signedValue_eq {w : Width} {v : Word} (h : v &&& w.ones = v) :
    signedValue w v = if v.toNat < 2 ^ (w.bits - 1) then (v.toNat : Int) else v.toNat - 2 ^ w.bits := by
  have hlt := Width.and_ones_eq_iff.mp h
  rw [signedValue, getLsbD_eq_decide]
  cases w
  all_goals
    norm_num [Width.bits] at hlt ⊢
    split <;> split <;> omega

/-- Complementing a value within a width takes its signed number to one less than the negative. -/
theorem signedValue_xor_ones {w : Width} {v : Word} (h : v &&& w.ones = v) :
    signedValue w (v ^^^ w.ones) = -1 - signedValue w v := by
  have hlt := Width.and_ones_eq_iff.mp h
  have within : (v ^^^ w.ones) &&& w.ones = v ^^^ w.ones := by
    rw [Width.and_ones_eq_iff, Width.xor_ones_toNat h]
    omega
  rw [signedValue_eq within, signedValue_eq h, Width.xor_ones_toNat h]
  cases w
  all_goals
    norm_num [Width.bits] at hlt ⊢
    split <;> split <;> omega

/-- Overflow: the signs of the operands agree and that of the sum differs. -/
theorem overflow_eq (w : Width) (a b r : Word) :
    overflow w a b r = ((w.msb a == w.msb b) && (w.msb a != w.msb r)) := by
  have bits (k : Nat) (hk : k < 16) : (~~~(a ^^^ b) &&& (a ^^^ r)).getLsbD k =
      ((a.getLsbD k == b.getLsbD k) && (a.getLsbD k != r.getLsbD k)) := by
    simp only [BitVec.getLsbD_and, BitVec.getLsbD_not, BitVec.getLsbD_xor, hk, decide_true, Bool.true_and]
    cases a.getLsbD k <;> cases b.getLsbD k <;> cases r.getLsbD k <;> rfl
  cases w
  case w8 => exact bits 7 (by decide)
  case w16 => exact bits 15 (by decide)

/-! ### The adder -/

theorem bit_eq_ite (c : Bool) : bit c = if c then 1 else 0 := by cases c <;> rfl

section
variable (w : Width) {a b : Word} (c : Bool) (ha : a &&& w.ones = a) (hb : b &&& w.ones = b)
include ha hb

theorem addBin_overflow : (addBin a b c w).v = outsideSigned w (signedValue w a + signedValue w b + (if c then 1 else 0)) := by
  have hla := Width.and_ones_eq_iff.mp ha
  have hlb := Width.and_ones_eq_iff.mp hb
  rw [signedValue_eq ha, signedValue_eq hb, Bool.eq_iff_iff]
  simp only [addBin, overflow_eq, Width.msb_eq, getLsbD_eq_decide, outsideSigned, bit_eq_ite, BitVec.toNat_ofNat, Bool.and_eq_true, beq_iff_eq, bne_iff_ne, ne_eq, decide_eq_true_eq, decide_eq_decide]
  cases w <;> cases c
  all_goals
    norm_num [Width.bits] at hla hlb ⊢
    split <;> split <;> omega

theorem addBin_exact :
    (addBin a b c w).r.toNat = (a.toNat + b.toNat + (if c then 1 else 0)) % 2 ^ w.bits ∧
    (addBin a b c w).c = decide (2 ^ w.bits ≤ a.toNat + b.toNat + (if c then 1 else 0)) ∧
    (addBin a b c w).v = outsideSigned w (signedValue w a + signedValue w b + (if c then 1 else 0)) := by
  have pos : 0 < 2 ^ w.bits := by positivity
  refine ⟨?_, ?_, addBin_overflow w c ha hb⟩
  · simp only [addBin, Width.trunc_toNat, BitVec.toNat_ofNat, bit_eq_ite]
    exact Nat.mod_mod_of_dvd _ (by cases w <;> decide)
  · simp only [addBin, Width.mask_eq, bit_eq_ite, decide_eq_decide]
    omega

end

/-- Settles O13: the sum by `addBin_exact`, and the difference by the same law for the complemented operand. -/
theorem binaryAdder : Obligations.BinaryAdder := by
  intro w a b c ha hb o n d k
  have pos : 0 < 2 ^ w.bits := by positivity
  have hlb := Width.and_ones_eq_iff.mp hb
  have complement := Width.xor_ones_toNat hb
  have within : (b ^^^ w.ones) &&& w.ones = b ^^^ w.ones := by
    rw [Width.and_ones_eq_iff, complement]
    omega
  obtain ⟨sum, carry, signed⟩ := addBin_exact w c ha hb
  obtain ⟨difference, borrow, signedDifference⟩ := addBin_exact w c ha within
  have borrowed : (if c then 1 else 0 : Int) = 1 - (if c then 0 else 1) := by cases c <;> rfl
  have shifted : ((a.toNat + (b ^^^ w.ones).toNat + (if c then 1 else 0) : Nat) : Int) = k + (2 ^ w.bits : Nat) := by
    rw [complement, Nat.cast_add, Nat.cast_ite, Nat.cast_one, Nat.cast_zero, borrowed]
    generalize 2 ^ w.bits = full at hlb pos ⊢
    omega
  refine ⟨sum, carry, signed, ?_, ?_, ?_⟩
  · rw [difference, Int.natCast_mod, shifted, Int.add_emod_right]
    norm_num
  · rw [borrow, decide_eq_decide]
    omega
  · rw [signedDifference, signedValue_xor_ones hb, borrowed]
    congr 1
    omega

end Sys2Proof.Machine

/-! PROOFS. The decimal adder on packed BCD as decimal addition and subtraction (42_arithmetic_compare.md R331, R345). Each digit is
`d + 10 * carry out = x + y + carry in`, where a subtraction adds the nine's complement. -/

namespace Sys2Proof.Machine

/-! ### One digit -/

/-- A digit's bits, in their place. -/
theorem and_digit (v : Word) (j : Nat) : v.toNat &&& (0xF * 16 ^ j) = bcdDigit v j * 16 ^ j := by
  have weight : 16 ^ j = 2 ^ (4 * j) := by rw [pow_mul]; rfl
  have digit : bcdDigit v j = v.toNat >>> (4 * j) &&& 0xF := by
    rw [Nat.and_two_pow_sub_one_eq_mod _ 4, Nat.shiftRight_eq_div_pow, bcdDigit, weight]
  rw [digit, weight, ← Nat.shiftLeft_eq, ← Nat.shiftLeft_eq]
  apply Nat.eq_of_testBit_eq
  intro i
  by_cases h : 4 * j ≤ i
  · simp [h, Nat.add_sub_cancel' h]
  · simp [h]

section
variable {k n s r : Int} (hr : 0 ≤ r) (hk : r < k)
include hr hk

/-- A comparison with a multiple of the weight is one of the digits. -/
theorem mul_sub_one_lt_iff : n * k - 1 < s * k + r ↔ n ≤ s := by
  constructor
  · intro h
    by_contra hlt
    nlinarith
  · intro h
    nlinarith

theorem weighted_emod : (s * k + r) % (16 * k) = s % 16 * k + r := by
  have split : s * k + r = s % 16 * k + r + 16 * k * (s / 16) := by
    nth_rw 1 [← Int.emod_add_mul_ediv s 16]
    ring
  have digit := Int.emod_lt_of_pos s (b := 16) (by decide)
  have digit_nonneg := Int.emod_nonneg s (b := 16) (by decide)
  rw [split, Int.add_mul_emod_self_left, Int.emod_eq_of_lt] <;> nlinarith

end

/-- A digit's sum after its decimal adjust: 6 more for a carry, 6 less for a borrow. -/
def adjustedDigit (sub : Bool) (s : Int) : Int := if sub then (if s ≤ 15 then s - 6 else s) else if 10 ≤ s then s + 6 else s

/-- `decDigit` on the digits of its weight. -/
theorem decDigit_eq (sub : Bool) (a b : Word) (w : Width) (acc : DecAcc) (j : Nat) :
    let s := adjustedDigit sub (bcdDigit a j + bcdDigit b j + bit acc.c)
    let o := decDigit sub a b w acc (16 ^ j)
    o.r = s * (16 ^ j : Nat) + acc.r % (16 ^ j : Nat) ∧ o.c = decide (16 ≤ s) := by
  have pos : (0 : Int) < (16 ^ j : Nat) := by positivity
  have nonneg := Int.emod_nonneg acc.r pos.ne'
  have lt := Int.emod_lt_of_pos acc.r pos
  simp only [decDigit, and_digit]
  generalize (16 ^ j : Nat) = k at *
  generalize acc.r % (k : Int) = r at *
  have sum : ((bcdDigit a j * k + bcdDigit b j * k + bit acc.c * k : Nat) : Int) + r =
      (bcdDigit a j + bcdDigit b j + bit acc.c) * k + r := by
    push_cast
    ring
  rw [sum]
  generalize (bcdDigit a j + bcdDigit b j + bit acc.c : Int) = s
  have borrow : s * k + r ≤ 16 * k - 1 ↔ s ≤ 15 := by
    have := mul_sub_one_lt_iff (n := 16) (s := s) nonneg lt
    omega
  have less : s * k + r - 6 * k = (s - 6) * k + r := by ring
  have more : s * k + r + 6 * k = (s + 6) * k + r := by ring
  have adjusted : adjustedDigit sub s * k + r =
      if sub && decide ((if !sub && decide (s * k + r > 10 * k - 1) then s * k + r + 6 * k else s * k + r) ≤ 16 * k - 1)
        then (if !sub && decide (s * k + r > 10 * k - 1) then s * k + r + 6 * k else s * k + r) - 6 * k
        else if !sub && decide (s * k + r > 10 * k - 1) then s * k + r + 6 * k else s * k + r := by
    cases sub
    case false => simp [adjustedDigit, gt_iff_lt, mul_sub_one_lt_iff nonneg lt, more, ite_mul, ite_add]
    case true => simp [adjustedDigit, borrow, less, ite_mul, ite_add]
  rw [← adjusted]
  exact ⟨rfl, decide_eq_decide.mpr (mul_sub_one_lt_iff nonneg lt)⟩

/-- A digit's sum is 6 more than in decimal when it is complemented or adjusted, so 16 and more is a decimal carry. -/
theorem adjustedDigit_eq (sub : Bool) {x y c : Nat} :
    adjustedDigit sub (x + (y + if sub then 6 else 0 : Nat) + c) = x + y + c + if 10 ≤ x + y + c then 6 else 0 := by
  cases sub
  all_goals
    simp only [adjustedDigit, Bool.false_eq_true, ↓reduceIte]
    split <;> split <;> omega

/-- One digit as a decimal digit with its carries: `y` is the decimal digit added, 6 less than the digit of a complemented `b`. -/
theorem decDigit_decimal {sub : Bool} {a b : Word} (w : Width) {x y : Nat} (j : Nat) (acc : DecAcc)
    (ha : bcdDigit a j = x) (hb : bcdDigit b j = y + if sub then 6 else 0) (hx : x ≤ 9) (hy : y ≤ 9) :
    let o := decDigit sub a b w acc (16 ^ j)
    ∃ d : Nat, d ≤ 9 ∧ o.r % (16 * (16 ^ j : Nat)) = d * (16 ^ j : Nat) + acc.r % (16 ^ j : Nat) ∧
      d + 10 * bit o.c = x + y + bit acc.c := by
  intro o
  have pos : (0 : Int) < (16 ^ j : Nat) := by positivity
  have carry : bit acc.c ≤ 1 := by cases acc.c <;> decide
  obtain ⟨hr, hc⟩ := decDigit_eq sub a b w acc j
  rw [hr, hc, ha, hb, weighted_emod (Int.emod_nonneg _ pos.ne') (Int.emod_lt_of_pos _ pos), adjustedDigit_eq,
    bit_eq_ite (decide _)]
  generalize bit acc.c = cin at carry ⊢
  by_cases h : 10 ≤ x + y + cin
  · refine ⟨x + y + cin - 10, by omega, ?_, ?_⟩
    · rw [if_pos h, show ((x : Int) + y + cin + 6) % 16 = (x + y + cin - 10 : Nat) by omega]
    · rw [if_pos h, if_pos (by simp; omega)]
      omega
  · refine ⟨x + y + cin, by omega, ?_, ?_⟩
    · rw [if_neg h, show ((x : Int) + y + cin + 0) % 16 = (x + y + cin : Nat) by omega]
    · rw [if_neg h, if_neg (by simp; omega), Nat.mul_zero, Nat.add_zero]

/-! ### All digits -/

theorem sum_range_update (d f : Nat → Nat) (n e : Nat) :
    ∑ j ∈ Finset.range (n + 1), Function.update d n e j * f j = (∑ j ∈ Finset.range n, d j * f j) + e * f n := by
  rw [Finset.sum_range_succ, Function.update_self]
  congr 1
  exact Finset.sum_congr rfl fun j hj => by rw [Function.update_of_ne (Finset.mem_range.mp hj).ne]

/-- The lowest `n` digits: BCD again, and the decimal sum with its carry. -/
theorem foldl_decDigit {sub : Bool} {a b : Word} (w : Width) (c : Bool) {y : Nat → Nat} (n : Nat)
    (ha : ∀ j < n, bcdDigit a j ≤ 9) (hb : ∀ j < n, bcdDigit b j = y j + if sub then 6 else 0) (hy : ∀ j < n, y j ≤ 9) :
    let o := ((List.range n).map (16 ^ ·)).foldl (decDigit sub a b w) { r := 0, c := c, v := false }
    ∃ d : Nat → Nat, (∀ j, d j ≤ 9) ∧ o.r % (16 ^ n : Nat) = (∑ j ∈ Finset.range n, d j * 16 ^ j : Nat) ∧
      (∑ j ∈ Finset.range n, d j * 10 ^ j) + 10 ^ n * bit o.c =
        (∑ j ∈ Finset.range n, bcdDigit a j * 10 ^ j) + (∑ j ∈ Finset.range n, y j * 10 ^ j) + bit c := by
  induction n with
  | zero => exact ⟨fun _ => 0, by simp, by simp, by simp⟩
  | succ n ih =>
    obtain ⟨d, hd, hr, hsum⟩ := ih (fun j hj => ha j (by omega)) (fun j hj => hb j (by omega)) fun j hj => hy j (by omega)
    rw [List.range_succ, List.map_append, List.foldl_append]
    generalize ((List.range n).map (16 ^ ·)).foldl (decDigit sub a b w) { r := 0, c := c, v := false } = acc at hr hsum ⊢
    obtain ⟨e, he, hre, hse⟩ := decDigit_decimal w n acc rfl (hb n (by omega)) (ha n (by omega)) (hy n (by omega))
    refine ⟨Function.update d n e, fun j => ?_, ?_, ?_⟩
    · by_cases h : j = n
      · simp [h, he]
      · simp [h, hd j]
    · rw [sum_range_update, pow_succ']
      push_cast at hre hr ⊢
      rw [hr] at hre
      rw [add_comm]
      exact hre
    · rw [sum_range_update, Finset.sum_range_succ, Finset.sum_range_succ]
      generalize ∑ j ∈ Finset.range n, d j * 10 ^ j = total at hsum ⊢
      generalize ∑ j ∈ Finset.range n, bcdDigit a j * 10 ^ j = left at hsum ⊢
      generalize ∑ j ∈ Finset.range n, y j * 10 ^ j = right at hsum ⊢
      have digit : 10 ^ n * (e + 10 * bit _) = 10 ^ n * (bcdDigit a n + y n + bit acc.c) := congrArg (10 ^ n * ·) hse
      simp only [List.map_cons, List.map_nil, List.foldl_cons, List.foldl_nil]
      linear_combination hsum + digit

/-! ### The decimal adder -/

/-- The digits a width holds. -/
def Width.digits : Width → Nat
  | .w8 => 2
  | .w16 => 4

theorem Width.digitWeights_eq (w : Width) : w.digitWeights = (List.range w.digits).map (16 ^ ·) := by cases w <;> rfl

theorem Width.decimals_eq (w : Width) : w.decimals = 10 ^ w.digits := by cases w <;> rfl

theorem ofInt_toNat (z : Int) : ((BitVec.ofInt 16 z).toNat : Int) = z % 65536 := by
  rw [BitVec.toNat_ofInt]
  omega

/-- A value of decimal digits is BCD, and stands for its digits. -/
theorem validBcd_of_digits {w : Width} {d : Nat → Nat} {v : Word} (hd : ∀ j, d j ≤ 9)
    (hv : v.toNat = ∑ j ∈ Finset.range w.digits, d j * 16 ^ j) :
    ValidBcd w v ∧ bcdValue v = ∑ j ∈ Finset.range w.digits, d j * 10 ^ j := by
  have h0 := hd 0
  have h1 := hd 1
  have h2 := hd 2
  have h3 := hd 3
  rw [ValidBcd, Width.and_ones_eq_iff, bcdValue]
  cases w
  all_goals
    simp only [Width.digits, Finset.sum_range_succ, Finset.sum_range_zero, Width.bits] at hv ⊢
    refine ⟨⟨by omega, fun j hj => ?_⟩, by simp only [bcdDigit]; omega⟩
    interval_cases j
    all_goals
      simp only [bcdDigit]
      omega

/-- The digits of BCD at its width. -/
theorem bcdValue_eq_sum {w : Width} {v : Word} (h : ValidBcd w v) :
    bcdValue v = ∑ j ∈ Finset.range w.digits, bcdDigit v j * 10 ^ j := by
  have hlt := Width.and_ones_eq_iff.mp h.1
  cases w
  all_goals
    simp only [bcdValue, Width.digits, Finset.sum_range_succ, Finset.sum_range_zero, Width.bits, bcdDigit] at hlt ⊢
    omega

/-- The digits `y` added to BCD: valid BCD, and the decimal sum with its carry. -/
theorem addDec_digits {sub : Bool} {a b : Word} (w : Width) (c : Bool) {y : Nat → Nat} (ha : ValidBcd w a)
    (hb : ∀ j < w.digits, bcdDigit (if sub then w.compl b else b) j = y j + if sub then 6 else 0)
    (hy : ∀ j < w.digits, y j ≤ 9) :
    let o := addDec a b c w sub
    ValidBcd w o.r ∧ bcdValue o.r + w.decimals * bit o.c =
      bcdValue a + (∑ j ∈ Finset.range w.digits, y j * 10 ^ j) + bit c := by
  have four : w.digits ≤ 4 := by cases w <;> decide
  obtain ⟨d, hd, hr, hsum⟩ := foldl_decDigit w c w.digits (fun j hj => ha.2 j (by omega)) hb hy
  intro o
  have result : o.r.toNat = ∑ j ∈ Finset.range w.digits, d j * 16 ^ j := by
    rw [← Width.digitWeights_eq] at hr
    apply Int.ofNat_inj.mp
    rw [← hr]
    simp only [o, addDec, Width.trunc_toNat, Int.natCast_mod, ofInt_toNat]
    cases w
    all_goals
      simp only [Width.bits, Width.digits]
      omega
  obtain ⟨valid, value⟩ := validBcd_of_digits hd result
  rw [value, bcdValue_eq_sum ha, Width.decimals_eq]
  refine ⟨valid, ?_⟩
  simp only [o, addDec, Width.digitWeights_eq]
  exact hsum

/-- A digit complemented at its width is fifteen's complement. -/
theorem bcdDigit_compl {w : Width} {b : Word} (hb : ValidBcd w b) {j : Nat} (hj : j < w.digits) :
    bcdDigit (w.compl b) j = 9 - bcdDigit b j + 6 := by
  have digit := hb.2
  have hlt := Width.and_ones_eq_iff.mp hb.1
  rw [Width.compl_eq_xor hb.1, bcdDigit, Width.xor_ones_toNat hb.1]
  cases w
  all_goals
    simp only [Width.digits, Width.bits, bcdDigit] at hj hlt digit ⊢
    have := digit j (by omega)
    interval_cases j <;> omega

/-- The nine's complement of BCD, digit by digit. -/
theorem sum_nines_complement {w : Width} {b : Word} (hb : ValidBcd w b) :
    (∑ j ∈ Finset.range w.digits, (9 - bcdDigit b j) * 10 ^ j) + bcdValue b + 1 = w.decimals := by
  have digit := hb.2
  have h0 := digit 0 (by decide)
  have h1 := digit 1 (by decide)
  have h2 := digit 2 (by decide)
  have h3 := digit 3 (by decide)
  rw [bcdValue_eq_sum hb]
  cases w
  all_goals
    simp only [Width.digits, Width.decimals, Finset.sum_range_succ, Finset.sum_range_zero]
    omega

/-- A decimal result below its full scale, and its carry. -/
theorem mod_and_carry {r full n : Nat} {c : Bool} (hr : r < full) (h : r + full * bit c = n) (hn : n < 2 * full) :
    r = n % full ∧ c = decide (full ≤ n) := by
  cases c
  case false =>
    simp [bit] at h
    subst h
    exact ⟨(Nat.mod_eq_of_lt hr).symm, by simp; omega⟩
  case true =>
    simp [bit] at h
    subst h
    exact ⟨by rw [Nat.add_mod_right, Nat.mod_eq_of_lt hr], by simp⟩

theorem bcdValue_lt {w : Width} {v : Word} (h : ValidBcd w v) : bcdValue v < w.decimals := by
  have := sum_nines_complement h
  omega

/-- Settles O14: `addDec_digits` for the digits of `b`, and for a subtraction for their nine's complements. -/
theorem decimalAdder : Obligations.DecimalAdder := by
  intro w a b c ha hb o n d k
  have carry : bit c ≤ 1 := by cases c <;> decide
  have hla := bcdValue_lt ha
  have hlb := bcdValue_lt hb
  have nines := sum_nines_complement hb
  have four : w.digits ≤ 4 := by cases w <;> decide
  obtain ⟨sumValid, sum⟩ := addDec_digits (sub := false) (b := b) (y := bcdDigit b) w c ha (fun _ _ => rfl)
    fun j hj => hb.2 j (by omega)
  obtain ⟨differenceValid, difference⟩ := addDec_digits (sub := true) (b := b) w c ha
    (fun j hj => bcdDigit_compl hb hj) fun j _ => Nat.sub_le 9 _
  rw [← bcdValue_eq_sum hb] at sum
  have hn : n = bcdValue a + bcdValue b + bit c := by rw [bit_eq_ite]
  have hk : (bcdValue a + (∑ j ∈ Finset.range w.digits, (9 - bcdDigit b j) * 10 ^ j) + bit c : Nat) = k + w.decimals := by
    have : (bit c : Int) = 1 - (if c then 0 else 1) := by cases c <;> rfl
    simp only [k]
    omega
  generalize bcdValue a + (∑ j ∈ Finset.range w.digits, (9 - bcdDigit b j) * 10 ^ j) + bit c = m at hk difference
  obtain ⟨sumValue, sumCarry⟩ := mod_and_carry (bcdValue_lt sumValid) sum (by omega)
  obtain ⟨differenceValue, differenceCarry⟩ := mod_and_carry (bcdValue_lt differenceValid) difference (by omega)
  refine ⟨sumValid, sumValue.trans (by rw [hn]), sumCarry.trans (by rw [hn]), differenceValid, ?_, ?_⟩
  · rw [differenceValue, Int.natCast_mod, hk, Int.add_emod_right]
  · rw [differenceCarry, decide_eq_decide]
    omega

end Sys2Proof.Machine

/-! PROOFS. Bus accesses by their target (20_memory.md R101, R110-R113), and the registers: what a write leaves elsewhere (R120, R121),
the ports of the layers, VRAM and audio (R124-R128, R134, R135), and every read (R131-R139). -/

namespace Sys2Proof.Machine

/-! ### Accesses by target -/

section
variable {b : Bus} {a : Addr} (lay : Layout) (v : Byte)

theorem Bus.rd8_of_wram {k : Nat} (ht : b.target a = .wram k) : b.rd8 a = (Cells.read b.wram k, b) := by
  simp only [Bus.rd8, Bus.readTarget, ht]

theorem Bus.wr8_of_wram {k : Nat} (ht : b.target a = .wram k) : b.wr8 lay a v = { b with wram := Cells.write b.wram k v } := by
  simp only [Bus.wr8, Bus.writeTarget, ht]

theorem Bus.rd8_of_rom {o : Nat} (ht : b.target a = .rom o) : b.rd8 a = (b.romByte o, b) := by
  simp only [Bus.rd8, Bus.readTarget, ht]

theorem Bus.rd8_of_unmapped (ht : b.target a = .unmapped) : b.rd8 a = (0, b.warnMapping) := by
  simp only [Bus.rd8, Bus.readTarget, ht]

theorem Bus.wr8_of_unmapped (ht : b.target a = .unmapped) : b.wr8 lay a v = b.warnMapping := by
  simp only [Bus.wr8, Bus.writeTarget, ht]

theorem Bus.rd8_of_sram_absent {k : Nat} (ht : b.target a = .sram k) (hk : b.saveRamSize ≤ k) : b.rd8 a = (0, b.warnSram) := by
  simp only [Bus.rd8, Bus.readTarget, ht, if_neg (Nat.not_lt.mpr hk)]

theorem Bus.wr8_of_sram_absent {k : Nat} (ht : b.target a = .sram k) (hk : b.saveRamSize ≤ k) :
    b.wr8 lay a v = b.warnSram := by
  simp only [Bus.wr8, Bus.writeTarget, ht, if_neg (Nat.not_lt.mpr hk)]

theorem Bus.rd8_of_reg {off : Nat} (ht : b.target a = .reg off) : b.rd8 a = b.readReg off := by
  simp only [Bus.rd8, Bus.readTarget, ht]

/-- A byte stored to work-RAM is read back. -/
theorem Bus.rd8_wr8_of_wram {k : Nat} (hb : b.MemOk) (ht : b.target a = .wram k) : ((b.wr8 lay a v).rd8 a).1 = v := by
  have target : ({ b with wram := Cells.write b.wram k v } : Bus).target a = .wram k := (target_of_cart rfl a).trans ht
  rw [Bus.wr8_of_wram lay v ht, Bus.rd8_of_wram target, Cells.read_write hb.wram.1, if_pos rfl]

end

/-! ### System banks -/

section
variable (b : Bus) {bank : Byte} {off : Word}

/-- The low offsets of a system bank are work-RAM in both mappings. -/
theorem target_systemBank_low (hb : SystemBank bank.toNat) (ho : off.toNat < 0x2000) :
    b.target (addrOf bank off) = .wram off.toNat := by
  have low : decodeLow bank.toNat off.toNat = .wram off.toNat := by
    rw [decodeLow, if_neg (by omega), if_pos ⟨hb, ho⟩]
  have high (r : Bool) : decodeHigh r bank.toNat off.toNat = .wram off.toNat := by
    rw [decodeHigh, if_neg (by omega), if_neg (by omega), if_pos ho]
  simp only [Bus.target, addrBank_addrOf, addrOffset_addrOf, low, high]
  repeat' split
  all_goals rfl

/-- The offsets 0x2000-0x5FFF of a system bank are the registers in both mappings. -/
theorem target_systemBank_reg (hb : SystemBank bank.toNat) (h1 : 0x2000 ≤ off.toNat) (h2 : off.toNat ≤ 0x5FFF) :
    b.target (addrOf bank off) = .reg off.toNat := by
  have low : decodeLow bank.toNat off.toNat = .reg off.toNat := by
    rw [decodeLow, if_neg (by omega), if_neg (by omega), if_pos ⟨hb, h2⟩]
  have high (r : Bool) : decodeHigh r bank.toNat off.toNat = .reg off.toNat := by
    rw [decodeHigh, if_neg (by omega), if_neg (by omega), if_neg (by omega), if_pos h2]
  simp only [Bus.target, addrBank_addrOf, addrOffset_addrOf, low, high]
  repeat' split
  all_goals rfl

/-- Bank 0x7E is the first half of work-RAM in both mappings. -/
theorem target_workRam : b.target (addrOf 0x7E off) = .wram off.toNat := by
  have low : decodeLow 0x7E off.toNat = .wram off.toNat := by simp [decodeLow]
  have high (r : Bool) : decodeHigh r 0x7E off.toNat = .wram off.toNat := by simp [decodeHigh]
  simp only [Bus.target, addrBank_addrOf, addrOffset_addrOf, show (0x7E : Byte).toNat = 0x7E from rfl, low, high]
  repeat' split
  all_goals rfl

end

/-- Settles O50: each access by its target. -/
theorem busTargets : Obligations.BusTargets := by
  intro s v
  refine ⟨fun bank off hb ho => ?mirror, fun a o ht => ?rom, fun a ht => ?unmapped, fun a k ht hk => ?absent, fun a k ht hk => ?saveRam,
    fun a k hm ht => Bus.rd8_wr8_of_wram _ v hm ht⟩
  case mirror =>
    have mirror := target_systemBank_low s.bus hb ho
    have direct := target_workRam s.bus (off := off)
    rw [rd8_eq, rd8_eq, wr8_eq, wr8_eq, Bus.rd8_of_wram mirror, Bus.rd8_of_wram direct, Bus.wr8_of_wram _ v mirror,
      Bus.wr8_of_wram _ v direct]
    exact ⟨rfl, rfl⟩
  case rom =>
    rw [rd8_eq, Bus.rd8_of_rom ht]
    rfl
  case unmapped =>
    rw [rd8_eq, wr8_eq, Bus.rd8_of_unmapped ht, Bus.wr8_of_unmapped _ v ht]
    exact ⟨rfl, rfl⟩
  case absent =>
    rw [rd8_eq, wr8_eq, Bus.rd8_of_sram_absent ht hk, Bus.wr8_of_sram_absent _ v ht hk]
    exact ⟨rfl, rfl⟩
  case saveRam => rw [rd8_eq, Bus.rd8_of_sram ht hk]

/-! ### What a register write leaves -/

/-- A register write as one change: the flat array, the PPU and the audio ports. -/
theorem Bus.writePort_eq (off : Nat) (v : Byte) (b : Bus) : b.writePort off v = { b with
    regs := Cells.write b.regs (off - 0x2000) v
    ppu := b.ppu.writePort off v
    apuPort0 := if off = 0x2140 then v else b.apuPort0
    apuPort1 := if off = 0x2141 then v else b.apuPort1
    apuPort2 := if off = 0x2142 then v else b.apuPort2
    apuPort3 := if off = 0x2143 then v else b.apuPort3 } := by
  unfold Bus.writePort
  split
  case isTrue h => subst h; rfl
  split
  case isTrue h => subst h; rfl
  split
  case isTrue h => subst h; rfl
  split
  case isTrue h => subst h; rfl
  simp [*, Bus.setReg]

/-- What a register write leaves of the PPU's memories: OAM always, VRAM but for its data ports, the palette but for its own. -/
structure Ppu.PortFrame (off : Nat) (p q : Ppu) : Prop where
  oam : q.oam = p.oam
  vram : off ≠ 0x2118 → off ≠ 0x2119 → q.vram = p.vram
  cgram : off ≠ 0x2122 → q.cgram = p.cgram

section
variable {off : Nat} (v : Byte) (p : Ppu)

theorem Ppu.portFrame_ite {p q r : Ppu} {c : Prop} [Decidable c] (hq : c → p.PortFrame off q) (hr : p.PortFrame off r) :
    p.PortFrame off (if c then q else r) := by
  split
  case isTrue h => exact hq h
  case isFalse => exact hr

theorem Ppu.writeVramLow_frame : p.PortFrame 0x2118 (p.writeVramLow v) :=
  portFrame_ite (fun _ => ⟨rfl, fun h _ => absurd rfl h, fun _ => rfl⟩) ⟨rfl, fun h _ => absurd rfl h, fun _ => rfl⟩

theorem Ppu.writeVramHigh_frame : p.PortFrame 0x2119 (p.writeVramHigh v) :=
  portFrame_ite (fun _ => ⟨rfl, fun _ h => absurd rfl h, fun _ => rfl⟩) ⟨rfl, fun _ h => absurd rfl h, fun _ => rfl⟩

theorem Ppu.writeCgData_frame : p.PortFrame 0x2122 (p.writeCgData v) :=
  portFrame_ite (fun _ => ⟨rfl, fun _ _ => rfl, fun h => absurd rfl h⟩) ⟨rfl, fun _ _ => rfl, fun _ => rfl⟩

theorem Ppu.writePort_frame : p.PortFrame off (p.writePort off v) := by
  have same {q : Ppu} (ho : q.oam = p.oam) (hv : q.vram = p.vram) (hc : q.cgram = p.cgram) : p.PortFrame off q :=
    ⟨ho, fun _ _ => hv, fun _ => hc⟩
  unfold Ppu.writePort
  iterate 11 refine portFrame_ite (fun _ => same rfl rfl rfl) ?_
  refine portFrame_ite (fun h => h ▸ p.writeVramLow_frame v) ?_
  refine portFrame_ite (fun h => h ▸ p.writeVramHigh_frame v) ?_
  refine portFrame_ite (fun _ => same rfl rfl rfl) ?_
  refine portFrame_ite (fun h => h ▸ p.writeCgData_frame v) ?_
  iterate 2 refine portFrame_ite (fun _ => same rfl rfl rfl) ?_
  exact same rfl rfl rfl

end

/-- A write of zero to 0x420B starts no DMA. -/
theorem Bus.dmaStart_zero (lay : Layout) (b : Bus) : b.dmaStart lay 0 = b := by
  have skip (b : Bus) (ch : Nat) : Bus.dmaChannelStart lay 0 b ch = b := by simp [dmaChannelStart]
  unfold dmaStart
  generalize List.range 8 = channels
  induction channels with
  | nil => rfl
  | cons ch channels ih => rw [List.foldl_cons, skip, ih]

theorem Bus.wr8_eq_writePort_of_zero {b : Bus} {a : Addr} {off : Nat} {v : Byte} (lay : Layout) (ht : b.target a = .reg off)
    (hv : off = 0x420B → v = 0) : b.wr8 lay a v = b.writePort off v := by
  by_cases h : off = 0x420B
  · simp only [Bus.wr8, Bus.writeTarget, ht, Bus.writeReg, if_pos h, hv h, Bus.dmaStart_zero]
  · exact Bus.wr8_eq_writePort lay v ht h

/-- Settles O21: the write as one change of the bus (`Bus.writePort_eq`), and its frame in the PPU (`Ppu.writePort_frame`). -/
theorem registerWriteFrame : Obligations.RegisterWriteFrame := by
  intro b lay a off v hb ht hv
  have range : 0x2000 ≤ off := by
    have := target_inRange b a
    rw [ht] at this
    exact this.1
  have frame := b.ppu.writePort_frame (off := off) v
  rw [Bus.wr8_eq_writePort_of_zero lay ht hv, Bus.writePort_eq]
  refine ⟨?written, fun o ho hne => ?others, rfl, rfl, rfl, frame.oam, frame.vram, frame.cgram, rfl, rfl, rfl⟩
  case written => exact (Cells.read_write hb.regs.1).trans (if_pos rfl)
  case others => exact (Cells.read_write hb.regs.1).trans (if_neg (by omega))

/-! ### Layers, VRAM and audio -/

theorem wordOf_low_eq (v : Byte) (w : Word) : wordOf v (highByte w) = (w &&& 0xFF00) ||| zext v := by
  have h := spliceA_eq .w8 (zext v) w
  simp only [lowByte_zext, spliceA, ← lowByte_eq_and] at h
  exact h

theorem wordOf_high_eq (v : Byte) (w : Word) : wordOf (lowByte w) v = (zext v <<< 8) ||| (w &&& 0x00FF) := by
  rw [wordOf_eq_or, lowByte_eq_and]

section
variable (v : Byte) (p : Ppu)

theorem Ppu.writeVramLow_eq : p.writeVramLow v =
    { p with
      vram := Cells.write p.vram (p.vramAddr.toNat % 0x8000) ((p.vramAt p.vramAddr &&& 0xFF00) ||| zext v)
      vramAddr := if !p.vramIncHigh then p.vramAddr + p.vramStep.words else p.vramAddr } := by
  rw [← wordOf_low_eq]
  by_cases h : p.vramIncHigh <;> simp [writeVramLow, storeVram, advance, h]

theorem Ppu.writeVramHigh_eq : p.writeVramHigh v =
    { p with
      vram := Cells.write p.vram (p.vramAddr.toNat % 0x8000) ((zext v <<< 8) ||| (p.vramAt p.vramAddr &&& 0x00FF))
      vramAddr := if p.vramIncHigh then p.vramAddr + p.vramStep.words else p.vramAddr } := by
  rw [← wordOf_high_eq]
  by_cases h : p.vramIncHigh <;> simp [writeVramHigh, storeVram, advance, h]

end

/-- Settles O52: below the audio ports each write is its port's on the PPU (`Bus.wr8_eq_ppu`), and an audio port takes the byte. -/
theorem layerVramAudioPorts : Obligations.LayerVramAudioPorts := by
  intro b lay a v off ht
  have ppu (h : off < 0x2140) : (b.wr8 lay a v).ppu = b.ppu.writePort off v := congrArg Bus.ppu (Bus.wr8_eq_ppu lay v ht h)
  have port (h : off ≠ 0x420B) : b.wr8 lay a v = b.writePort off v := Bus.wr8_eq_writePort lay v ht h
  refine ⟨?map1, ?map2, ?map3, ?map4, ?char12, ?char34, ?addrLow, ?addrHigh, ?dataLow, ?dataHigh, ?mainMask, ?subMask,
    ?port0, ?port1, ?port2, ?port3⟩
  all_goals rintro rfl
  case map1 | map2 | map3 | map4 =>
    rw [ppu (by decide), ofNat_toNat_mod (m := 4) rfl]
    rfl
  case char12 | char34 | mainMask | subMask => exact ppu (by decide)
  case addrLow =>
    rw [ppu (by decide), ← wordOf_low_eq]
    rfl
  case addrHigh =>
    rw [ppu (by decide), ← wordOf_high_eq]
    rfl
  case dataLow => exact (ppu (by decide)).trans (b.ppu.writeVramLow_eq v)
  case dataHigh => exact (ppu (by decide)).trans (b.ppu.writeVramHigh_eq v)
  case port0 | port1 | port2 | port3 =>
    rw [port (by decide)]
    rfl

/-! ### Reads -/

/-- The two bytes of a palette entry. -/
theorem entry_bytes (c : BitVec 15) :
    lowByte (c.setWidth 16) = BitVec.ofNat 8 (c.toNat % 256) ∧ highByte (c.setWidth 16) = BitVec.ofNat 8 (c.toNat / 256) := by
  have := c.isLt
  constructor
  · apply BitVec.eq_of_toNat_eq
    simp
  · apply BitVec.eq_of_toNat_eq
    simp
    omega

theorem Ppu.readCgData_eq (p : Ppu) :
    let entry := (Cells.read p.cgram p.cgIndex.toNat).toNat
    p.readCgData = if p.cgPhase
      then (BitVec.ofNat 8 (entry / 256), { p with cgPhase := false, cgIndex := p.cgIndex + 1 })
      else (BitVec.ofNat 8 (entry % 256), { p with cgPhase := true }) := by
  obtain ⟨low, high⟩ := entry_bytes (Cells.read p.cgram p.cgIndex.toNat)
  simp only [readCgData, low, high]

/-- Settles O53: each register by its line of `Bus.readReg`. -/
theorem registerReads : Obligations.RegisterReads := by
  intro b a off ht p r
  have reads : r = b.readReg off := Bus.rd8_of_reg ht
  rw [reads]
  refine ⟨?vramLow, ?vramHigh, ?palette, ?port0, ?port1, ?port2, ?port3, ?nmi, ?vblank, ?controllers, ?others⟩
  case controllers =>
    intro h
    unfold Bus.readReg
    iterate 9 rw [if_neg (by omega)]
    exact if_pos h
  case others =>
    intro h hstub
    simp only [List.mem_cons, List.not_mem_nil, or_false, not_or] at h
    unfold Bus.readReg
    iterate 10 rw [if_neg (by omega)]
  all_goals rintro rfl
  case vramLow => exact Prod.ext rfl (apply_ite (fun q : Ppu => ({ b with ppu := q } : Bus)) _ b.ppu b.ppu.advance.reload)
  case vramHigh => exact Prod.ext rfl (apply_ite (fun q : Ppu => ({ b with ppu := q } : Bus)) _ b.ppu.advance.reload b.ppu)
  case palette =>
    change (b.ppu.readCgData.1, { b with ppu := b.ppu.readCgData.2 }) = _
    rw [Ppu.readCgData_eq]
    by_cases h : b.ppu.cgPhase <;> simp [p, h]
  case port0 | port1 | port2 | port3 | nmi | vblank => rfl

/-! ### The palette -/

section
variable {b : Bus} {off : Word} (lay : Layout) (v : Byte)

/-- The registers are reached through bank 0 in both mappings. -/
theorem target_bank0_reg (h1 : 0x2000 ≤ off.toNat) (h2 : off.toNat ≤ 0x5FFF) : b.target (addrOf 0 off) = .reg off.toNat :=
  target_systemBank_reg b (by decide) h1 h2

theorem wr8_cgIndex_ppu : (b.wr8 lay 0x002121 v).ppu = b.ppu.writeCgIndex v :=
  congrArg Bus.ppu (Bus.wr8_eq_ppu lay v (target_bank0_reg (off := 0x2121) (by decide) (by decide)) (by decide))

theorem wr8_cgData_ppu : (b.wr8 lay 0x002122 v).ppu = b.ppu.writeCgData v :=
  congrArg Bus.ppu (Bus.wr8_eq_ppu lay v (target_bank0_reg (off := 0x2122) (by decide) (by decide)) (by decide))

theorem rd8_cgData : b.rd8 0x00213B = (b.ppu.readCgData.1, { b with ppu := b.ppu.readCgData.2 }) :=
  Bus.rd8_of_reg (target_bank0_reg (off := 0x213B) (by decide) (by decide))

end

/-- Settles O54: the three writes and the two reads on the PPU alone, and the entry read after it was written. -/
theorem paletteRoundTrip : Obligations.PaletteRoundTrip := by
  intro b lay i lo hi hb t u r q
  have hlo := lo.isLt
  have hhi := hi.isLt
  have stored : Cells.read (Cells.write b.ppu.cgram i.toNat ((wordOf lo hi).setWidth 15)) i.toNat =
      BitVec.ofNat 15 (hi.toNat % 128 * 256 + lo.toNat) := by
    rw [Cells.read_write hb.cgram.1, if_pos rfl, wordOf_setWidth_15]
  have written : t.ppu = { b.ppu with
      cgram := Cells.write b.ppu.cgram i.toNat ((wordOf lo hi).setWidth 15)
      cgIndex := i + 1
      cgPhase := false
      cgLow := lo } := by
    simp only [t, wr8_cgData_ppu, wr8_cgIndex_ppu]
    rfl
  have again : u.ppu = { b.ppu with
      cgram := Cells.write b.ppu.cgram i.toNat ((wordOf lo hi).setWidth 15)
      cgIndex := i
      cgPhase := false
      cgLow := lo } := by
    simp only [u, wr8_cgIndex_ppu, written]
    rfl
  have entry : (Cells.read u.ppu.cgram u.ppu.cgIndex.toNat).toNat = hi.toNat % 128 * 256 + lo.toNat := by
    rw [again, stored, BitVec.toNat_ofNat]
    omega
  have first : r = (lo, { u with ppu := { u.ppu with cgPhase := true } }) := by
    have phase : u.ppu.cgPhase = false := congrArg Ppu.cgPhase again
    simp only [r, rd8_cgData, Ppu.readCgData_eq, entry, phase]
    refine Prod.ext (BitVec.eq_of_toNat_eq ?_) rfl
    simp
    omega
  have second : q = (BitVec.ofNat 8 (hi.toNat % 128), { u with ppu := { u.ppu with cgPhase := false, cgIndex := i + 1 } }) := by
    have index : u.ppu.cgIndex = i := congrArg Ppu.cgIndex again
    rw [index] at entry
    simp only [q, first, rd8_cgData, Ppu.readCgData_eq, index, entry]
    refine Prod.ext (BitVec.eq_of_toNat_eq ?_) rfl
    simp
    omega
  rw [written, first, second]
  refine ⟨stored, rfl, rfl, BitVec.eq_of_toNat_eq ?_, rfl, rfl⟩
  have low := Nat.and_two_pow_sub_one_eq_mod hi.toNat 7
  simp at low ⊢
  omega

end Sys2Proof.Machine

/-! PROOFS. A stack in work-RAM: what was pushed is pulled again (45_stack.md R450, R467; 60_exceptions.md R556, R558). -/

namespace Sys2Proof.Machine

/-! ### Stack slots -/

/-- In emulation mode a legal S is paged already. -/
theorem stackValue_of_modeOk {c : Cpu} (h : c.ModeOk) : stackValue c.e c.s = c.s := by
  cases he : c.e
  case false => rfl
  case true =>
    have page := h.emulation_s he
    rw [stackValue, if_pos rfl, ← page, wordOf_bytes]

section
variable {e : Bool} {sp : Word}

theorem slotDown_eq_stackValue (hs : stackValue e sp = sp) (k : Nat) : slotDown e sp k = stackValue e (sp - BitVec.ofNat 16 k) := by
  by_cases hk : k = 0
  · subst hk
    rw [slotDown_zero, BitVec.sub_zero, hs]
  · rw [stackValue_eq, slotDown]
    simp [hk]

theorem slotUp_eq_stackValue (k : Nat) : slotUp e sp k = stackValue e (sp + BitVec.ofNat 16 k) := by
  rw [stackValue_eq, slotUp]

/-- A sum in page 1 takes the low byte of its terms. -/
theorem stackValue_add (v w : Word) : stackValue e (stackValue e v + w) = stackValue e (v + w) := by
  cases e
  case false => rfl
  case true =>
    simp only [stackValue, ↓reduceIte]
    congr 1
    apply BitVec.eq_of_toNat_eq
    simp
    omega

/-- The pull after `n` pushes goes back over their slots. -/
theorem slotUp_slotDown (hs : stackValue e sp = sp) {k n : Nat} (hk : k ≤ n) :
    slotUp e (slotDown e sp n) k = slotDown e sp (n - k) := by
  rw [slotUp_eq_stackValue, slotDown_eq_stackValue hs, slotDown_eq_stackValue hs, stackValue_add]
  congr 1
  have split : BitVec.ofNat 16 n = BitVec.ofNat 16 (n - k) + BitVec.ofNat 16 k := by rw [← BitVec.ofNat_add, Nat.sub_add_cancel hk]
  rw [split]
  bv_omega

/-- Four slots in a row are four bytes. -/
theorem slotDown_ne {i j : Nat} (hs : stackValue e sp = sp) (hij : i < j) (hj : j < 256) : slotDown e sp i ≠ slotDown e sp j := by
  rw [slotDown_eq_stackValue hs, slotDown_eq_stackValue hs]
  intro h
  have low : (lowByte (sp - BitVec.ofNat 16 i)).toNat = (lowByte (sp - BitVec.ofNat 16 j)).toNat := by
    have := congrArg (fun v => (lowByte v).toNat) h
    cases e
    case false => exact this
    case true => simpa [stackValue] using this
  simp only [lowByte_toNat, BitVec.toNat_sub, BitVec.toNat_ofNat] at low
  omega

end

/-- A stack slot in work-RAM is a byte of it, in both mappings. -/
theorem target_stackSlot (b : Bus) {o : Word} (ho : InWorkRam o) : b.target (addrOf 0 o) = .wram o.toNat :=
  target_systemBank_low b (by decide) ho

/-! ### Pushes and pulls in work-RAM -/

section
variable {lay : Layout} {e : Bool} {sp : Word} {b : Bus}

theorem pushBus_memOk (hb : b.MemOk) (k : Nat) (vs : List Byte) : (pushBus lay e sp k vs b).MemOk := by
  induction vs generalizing k b with
  | nil => exact hb
  | cons v vs ih => exact ih (memOk_stable.wr8 hb lay _ v) (k + 1)

/-- Bytes pushed to work-RAM are there. -/
theorem read_pushBus (hs : stackValue e sp = sp) (hb : b.MemOk) {vs : List Byte} (hn : vs.length < 256)
    (hram : ∀ i < vs.length, InWorkRam (slotDown e sp i)) {i : Nat} (hi : i < vs.length) :
    Cells.read (pushBus lay e sp 0 vs b).wram (slotDown e sp i).toNat = vs.getD i 0 := by
  induction vs using List.reverseRecOn generalizing i with
  | nil => simp at hi
  | append_singleton vs v ih =>
    rw [List.length_append, List.length_singleton] at hi hn hram
    have slot : (pushBus lay e sp 0 vs b).target (addrOf 0 (slotDown e sp (0 + vs.length))) = .wram (slotDown e sp vs.length).toNat := by
      rw [Nat.zero_add]
      exact target_stackSlot _ (hram vs.length (by omega))
    rw [pushBus_append, Bus.wr8_of_wram lay v slot, Cells.read_write (pushBus_memOk hb 0 vs).wram.1]
    by_cases h : i = vs.length
    · rw [h, if_pos rfl]
      simp
    · have ne := slotDown_ne (e := e) hs (show i < vs.length by omega) (by omega)
      rw [if_neg fun h => ne (BitVec.eq_of_toNat_eq h), ih (by omega) (fun j hj => hram j (by omega)) (by omega),
        List.getD_append _ _ _ _ (by omega)]

/-- A pull from work-RAM reads its bytes and nothing else. -/
theorem pullBus_of_workRam {n : Nat} (k : Nat) (hram : ∀ i < n, InWorkRam (slotUp e sp (k + i))) :
    pullBus e sp k n b = ((List.range n).map fun i => Cells.read b.wram (slotUp e sp (k + i)).toNat, b) := by
  induction n with
  | zero => rfl
  | succ n ih =>
    rw [pullBus_succ, ih fun i hi => hram i (by omega)]
    simp only [Bus.rd8_of_wram (target_stackSlot b (hram n (by omega))), List.range_succ, List.map_append, List.map_cons, List.map_nil]

end

/-- After a push to work-RAM, from any state with its S, its E and its work-RAM: a pull gives the bytes and S back. -/
theorem pulled_of_pushed {s u : State} {vs : List Byte} (hm : s.cpu.ModeOk) (hb : s.bus.MemOk) (hn : vs.length < 256)
    (hram : ∀ i < vs.length, InWorkRam (slotDown s.cpu.e s.cpu.s i)) (he : u.cpu.e = s.cpu.e)
    (hs : u.cpu.s = (pushed vs s).cpu.s) (hw : u.bus.wram = (pushed vs s).bus.wram) :
    pulled vs.length u = (vs.reverse, { u with cpu := { u.cpu with s := s.cpu.s } }) := by
  have legal := stackValue_of_modeOk hm
  have slot (k : Nat) (hk : k ≤ vs.length) : slotUp u.cpu.e u.cpu.s k = slotDown s.cpu.e s.cpu.s (vs.length - k) := by
    rw [he, hs]
    exact slotUp_slotDown legal hk
  have pulls : pullBus u.cpu.e u.cpu.s 1 vs.length u.bus = (vs.reverse, u.bus) := by
    rw [pullBus_of_workRam 1 fun i hi => by rw [slot _ (by omega)]; exact hram _ (by omega)]
    refine Prod.ext (List.ext_getElem (by simp) fun i hi _ => ?_) rfl
    simp only [List.length_map, List.length_range] at hi
    rw [List.getElem_map, List.getElem_range, slot _ (by omega), hw, List.getElem_reverse]
    refine (read_pushBus legal hb hn hram (by omega)).trans ?_
    rw [List.getD_eq_getElem _ _ (by omega)]
    congr 1
    omega
  have top : slotUp u.cpu.e u.cpu.s vs.length = s.cpu.s := by rw [slot _ (Nat.le_refl _), Nat.sub_self, slotDown_zero]
  rw [pulled, pulls, top]

/-! ### A push and the pull of the same register -/

/-- The bytes a push of a width writes, the first one first. -/
def pushedBytes (w : Width) (v : Word) : List Byte :=
  match w with
  | .w8 => [lowByte v]
  | .w16 => [highByte v, lowByte v]

theorem pushedBytes_length (w : Width) (v : Word) : (pushedBytes w v).length = w.bytes := by cases w <;> rfl

theorem pushW_eq_pushedBytes (w : Width) (v : Word) (s : State) : pushW w v s = pushed (pushedBytes w v) s := by
  rw [pushW_eq]
  cases w <;> rfl

theorem leNat_pushedBytes (w : Width) (v : Word) : BitVec.ofNat 16 (leNat (pushedBytes w v).reverse) = w.trunc v := by
  apply BitVec.eq_of_toNat_eq
  cases w
  all_goals
    simp [pushedBytes, leNat, Width.trunc]
    omega

theorem spliceA_trunc_self (w : Width) (v : Word) : spliceA w (w.trunc v) v = v := by
  rw [← spliceA_eq]
  cases w
  case w8 => simp [Width.trunc]
  case w16 => rfl

theorem trunc_of_highByte {w : Width} {v : Word} (h : w = .w8 → highByte v = 0) : w.trunc v = v := by
  cases w
  case w8 =>
    have := congrArg BitVec.toNat (h rfl)
    apply BitVec.eq_of_toNat_eq
    simp [Width.trunc] at this ⊢
    omega
  case w16 => rfl

theorem eight_of_widthOf {eight : Bool} (h : widthOf eight = .w8) : eight = true := by
  cases eight
  case false => cases h
  case true => rfl

section
variable {s : State} (hm : s.cpu.ModeOk) (hb : s.bus.MemOk) (hram : ∀ k < 2, InWorkRam (slotDown s.cpu.e s.cpu.s k))
include hm hb hram

/-- A pull right after a push of a width: the registers as before the push, and the value pushed. -/
theorem pulled_pushedBytes (w : Width) (v : Word) :
    (pulled w.bytes (pushed (pushedBytes w v) s)).2.cpu = s.cpu ∧
    BitVec.ofNat 16 (leNat (pulled w.bytes (pushed (pushedBytes w v) s)).1) = w.trunc v := by
  have two : (pushedBytes w v).length ≤ 2 := by
    rw [pushedBytes_length]
    cases w <;> decide
  have pull := pulled_of_pushed (u := pushed (pushedBytes w v) s) hm hb (by omega) (fun i hi => hram i (by omega)) rfl rfl rfl
  rw [pushedBytes_length] at pull
  rw [pull]
  exact ⟨rfl, leNat_pushedBytes w v⟩

theorem opPla_pushed :
    let w := widthOf s.cpu.p.m
    (opPla (pushed (pushedBytes w s.cpu.a) s)).cpu = { s.cpu with p := nzOf w (w.trunc s.cpu.a) s.cpu.p } := by
  intro w
  obtain ⟨cpu, value⟩ := pulled_pushedBytes hm hb hram w s.cpu.a
  have h := congrArg State.cpu (opPla_eq (pushed (pushedBytes w s.cpu.a) s))
  simp only [show widthOf (pushed (pushedBytes w s.cpu.a) s).cpu.p.m = w from rfl, cpu, value] at h
  exact h.trans (congrArg (fun a => { s.cpu with a := a, p := nzOf w (w.trunc s.cpu.a) s.cpu.p }) (spliceA_trunc_self w s.cpu.a))

theorem opPlx_pushed :
    let w := widthOf s.cpu.p.x
    (opPlx (pushed (pushedBytes w s.cpu.x) s)).cpu = { s.cpu with p := nzOf w (w.trunc s.cpu.x) s.cpu.p } := by
  intro w
  obtain ⟨cpu, value⟩ := pulled_pushedBytes hm hb hram w s.cpu.x
  have within : w.trunc s.cpu.x = s.cpu.x := trunc_of_highByte fun hw => hm.index_x (eight_of_widthOf hw)
  have h := congrArg State.cpu (opPlx_eq (pushed (pushedBytes w s.cpu.x) s))
  simp only [show widthOf (pushed (pushedBytes w s.cpu.x) s).cpu.p.x = w from rfl, cpu, value] at h
  exact h.trans (congrArg (fun x => { s.cpu with x := x, p := nzOf w (w.trunc s.cpu.x) s.cpu.p }) within)

theorem opPly_pushed :
    let w := widthOf s.cpu.p.x
    (opPly (pushed (pushedBytes w s.cpu.y) s)).cpu = { s.cpu with p := nzOf w (w.trunc s.cpu.y) s.cpu.p } := by
  intro w
  obtain ⟨cpu, value⟩ := pulled_pushedBytes hm hb hram w s.cpu.y
  have within : w.trunc s.cpu.y = s.cpu.y := trunc_of_highByte fun hw => hm.index_y (eight_of_widthOf hw)
  have h := congrArg State.cpu (opPly_eq (pushed (pushedBytes w s.cpu.y) s))
  simp only [show widthOf (pushed (pushedBytes w s.cpu.y) s).cpu.p.x = w from rfl, cpu, value] at h
  exact h.trans (congrArg (fun y => { s.cpu with y := y, p := nzOf w (w.trunc s.cpu.y) s.cpu.p }) within)

theorem opPld_pushed :
    (opPld (pushed [highByte s.cpu.d, lowByte s.cpu.d] s)).cpu = { s.cpu with p := nzOf .w16 s.cpu.d s.cpu.p } := by
  obtain ⟨cpu, value⟩ := pulled_pushedBytes hm hb hram .w16 s.cpu.d
  have h := congrArg State.cpu (opPld_eq (pushed (pushedBytes .w16 s.cpu.d) s))
  simp only [show Width.w16.bytes = 2 from rfl] at cpu value
  simp only [cpu, value] at h
  exact h

/-- One byte pushed and pulled. -/
theorem pulled_byte (v : Byte) :
    pulled 1 (pushed [v] s) = ([v], { pushed [v] s with cpu := s.cpu }) :=
  pulled_of_pushed (vs := [v]) hm hb (by simp) (fun i hi => hram i (Nat.lt_succ_of_lt hi)) rfl rfl rfl

theorem opPlb_pushed : (opPlb (pushed [s.cpu.db] s)).cpu = { s.cpu with p := nzOf .w8 (zext s.cpu.db) s.cpu.p } := by
  rw [opPlb_eq, pulled_byte hm hb hram]
  rfl

theorem opPlp_pushed : (opPlp (pushed [s.cpu.p.toByte] s)).cpu = s.cpu := by
  rw [opPlp_eq, pulled_byte hm hb hram]
  change withStatus (Status.ofByte s.cpu.p.toByte) s.cpu = s.cpu
  rw [Status.ofByte_toByte, ← enforceModes_eq, enforceModes_of_modeOk hm]

end

/-- What `PushThenPull` asks of a pull that changes N and Z alone. -/
theorem registers_of_nzOf {c c' : Cpu} {w : Width} {v : Word} (h : c' = { c with p := nzOf w v c.p }) :
    c'.a = c.a ∧ c'.x = c.x ∧ c'.y = c.y ∧ c'.s = c.s ∧ c'.d = c.d ∧ c'.db = c.db ∧ c'.pb = c.pb ∧ c'.pc = c.pc ∧ c'.e = c.e ∧
      { c'.p with n := c.p.n, z := c.p.z } = c.p := by
  subst h
  exact ⟨rfl, rfl, rfl, rfl, rfl, rfl, rfl, rfl, rfl, rfl⟩

/-- Settles O33: each pull from the state its push leaves, by the slots it goes back over (`pulled_of_pushed`). -/
theorem pushThenPull : Obligations.PushThenPull := by
  intro s hm hb hram push pull hpair
  have flagged {w : Width} {v : Word} {push pull : Instr} {t u : State} (h1 : exec push s = .next t) (h2 : exec pull t = .next u)
      (hu : u.cpu = { s.cpu with p := nzOf w v s.cpu.p }) (hp : push ≠ .php) :
      ∃ t u, exec push s = .next t ∧ exec pull t = .next u ∧
        u.cpu.a = s.cpu.a ∧ u.cpu.x = s.cpu.x ∧ u.cpu.y = s.cpu.y ∧ u.cpu.s = s.cpu.s ∧ u.cpu.d = s.cpu.d ∧
        u.cpu.db = s.cpu.db ∧ u.cpu.pb = s.cpu.pb ∧ u.cpu.pc = s.cpu.pc ∧ u.cpu.e = s.cpu.e ∧
        (push = .php → u.cpu.p = s.cpu.p) ∧ (push ≠ .php → { u.cpu.p with n := s.cpu.p.n, z := s.cpu.p.z } = s.cpu.p) := by
    obtain ⟨ha, hx, hy, hs, hd, hdb, hpb, hpc, he, hnz⟩ := registers_of_nzOf hu
    exact ⟨t, u, h1, h2, ha, hx, hy, hs, hd, hdb, hpb, hpc, he, fun h => absurd h hp, fun _ => hnz⟩
  simp only [List.mem_cons, Prod.mk.injEq, List.not_mem_nil, or_false] at hpair
  obtain ⟨rfl, rfl⟩ | ⟨rfl, rfl⟩ | ⟨rfl, rfl⟩ | ⟨rfl, rfl⟩ | ⟨rfl, rfl⟩ | ⟨rfl, rfl⟩ := hpair
  · exact flagged (u := opPla _) (congrArg Host.Outcome.next (pushW_eq_pushedBytes _ _ s)) rfl (opPla_pushed hm hb hram) (by decide)
  · exact flagged (u := opPlx _) (congrArg Host.Outcome.next (pushW_eq_pushedBytes _ _ s)) rfl (opPlx_pushed hm hb hram) (by decide)
  · exact flagged (u := opPly _) (congrArg Host.Outcome.next (pushW_eq_pushedBytes _ _ s)) rfl (opPly_pushed hm hb hram) (by decide)
  · exact flagged (u := opPlb _) (congrArg Host.Outcome.next (push8_eq _ s)) rfl (opPlb_pushed hm hb hram) (by decide)
  · exact flagged (u := opPld _) (congrArg Host.Outcome.next (push16_eq _ s)) rfl (opPld_pushed hm hb hram) (by decide)
  · have cpu := opPlp_pushed hm hb hram
    refine ⟨_, opPlp _, congrArg Host.Outcome.next (push8_eq _ s), rfl, ?_⟩
    simp only [cpu]
    simp

/-! ### An interrupt entry and its return -/

theorem vector_sameStore (a n : Nat) (s : State) : s.bus.SameStore (memRead0 a n s).2.bus := by
  unfold memRead0
  generalize (fun k => BitVec.ofNat 24 ((a + k) % 65536)) = at_
  generalize 0 = k
  induction n generalizing k s with
  | zero => exact .refl _
  | succ n ih => exact (rd8_sameStore _ _).trans (ih (rd8 (at_ k) s).2 (k + 1))

/-- The status pushed at an entry gives P back under EnforceModes: in emulation mode bit 4 reads as 1. -/
theorem withStatus_pushedStatus {c : Cpu} (h : c.ModeOk) (k : Interrupt) : withStatus (k.pushedStatus c) c = c := by
  have own : withStatus c.p c = c := by rw [← enforceModes_eq, enforceModes_of_modeOk h]
  have same : withStatus (k.pushedStatus c) c = withStatus c.p c := by
    unfold withStatus Interrupt.pushedStatus
    cases he : c.e <;> cases k <;> simp
  exact same.trans own

/-- The frame of an interrupt, the first byte pushed first (60_exceptions.md R556). -/
def interruptFrame (k : Interrupt) (s : State) : List Byte :=
  (if s.cpu.e then [] else [s.cpu.pb]) ++ [highByte s.cpu.pc, lowByte s.cpu.pc, (k.pushedStatus s.cpu).toByte]

theorem interruptFrame_length (k : Interrupt) (s : State) : (interruptFrame k s).length = if s.cpu.e then 3 else 4 := by
  unfold interruptFrame
  cases s.cpu.e <;> rfl

theorem interruptFrame_reverse (k : Interrupt) (s : State) : (interruptFrame k s).reverse =
    [(k.pushedStatus s.cpu).toByte, lowByte s.cpu.pc, highByte s.cpu.pc] ++ if s.cpu.e then [] else [s.cpu.pb] := by
  unfold interruptFrame
  cases s.cpu.e <;> rfl

/-- The registers an entry writes. -/
theorem raiseInterrupt_cpu (k : Interrupt) (s : State) : ∃ pc : Word, (raiseInterrupt k s).cpu = { s.cpu with
    s := slotDown s.cpu.e s.cpu.s (interruptFrame k s).length
    p := { s.cpu.p with i := true, d := s.cpu.e && s.cpu.p.d }
    pb := 0
    pc := pc
    nmiPending := if k = .nmi then false else s.cpu.nmiPending } := by
  rw [raiseInterrupt_eq]
  exact ⟨_, rfl⟩

/-- Between the entry and its return nothing touches work-RAM, so the frame is pulled whole. -/
theorem pulled_raiseInterrupt (k : Interrupt) {s : State} (hm : s.cpu.ModeOk) (hb : s.bus.MemOk)
    (hram : ∀ n < 4, InWorkRam (slotDown s.cpu.e s.cpu.s n)) :
    pulled (if s.cpu.e then 3 else 4) (raiseInterrupt k s) = ((interruptFrame k s).reverse,
      { raiseInterrupt k s with cpu := { (raiseInterrupt k s).cpu with s := s.cpu.s } }) := by
  have four : (interruptFrame k s).length ≤ 4 := by
    rw [interruptFrame_length]
    split <;> omega
  have stack : (raiseInterrupt k s).cpu.s = (pushed (interruptFrame k s) s).cpu.s := by
    rw [raiseInterrupt_eq]
    rfl
  have wram : (raiseInterrupt k s).bus.wram = (pushed (interruptFrame k s) s).bus.wram := by
    rw [raiseInterrupt_eq]
    exact (vector_sameStore _ 2 (pushed (interruptFrame k s) s)).wram
  rw [← interruptFrame_length k s]
  exact pulled_of_pushed hm hb (by omega) (fun i hi => hram i (by omega)) (raiseInterrupt_e s k) stack wram

/-- Settles O41: P, PC and PB come from the frame, and every other register is as the entry left it. -/
theorem returnUndoesEntry : Obligations.ReturnUndoesEntry := by
  intro k s hm hb hram
  refine ⟨_, rfl, ?_⟩
  obtain ⟨pc, cpu⟩ := raiseInterrupt_cpu k s
  have status : withStatus (Status.ofByte (k.pushedStatus s.cpu).toByte) s.cpu = s.cpu := by
    rw [Status.ofByte_toByte, withStatus_pushedStatus hm]
  have word : BitVec.ofNat 16 (leNat [lowByte s.cpu.pc, highByte s.cpu.pc]) = s.cpu.pc := leNat_pushedBytes .w16 s.cpu.pc
  have returned := congrArg State.cpu (returnFromInterrupt_eq (raiseInterrupt k s))
  simp only [pulled_raiseInterrupt k hm hb hram, cpu, interruptFrame_reverse] at returned
  calc (returnFromInterrupt (raiseInterrupt k s)).cpu
      = { withStatus (Status.ofByte (k.pushedStatus s.cpu).toByte) s.cpu with
          pc := BitVec.ofNat 16 (leNat [lowByte s.cpu.pc, highByte s.cpu.pc])
          pb := if s.cpu.e then 0 else s.cpu.pb
          nmiPending := if k = .nmi then false else s.cpu.nmiPending } := by
        rw [returned]
        by_cases he : s.cpu.e = true
        · simp only [if_pos he]
          rfl
        · simp only [if_neg he]
          rfl
    _ = _ := by rw [status, word]

end Sys2Proof.Machine

/-! PROOFS. The frame of the storing instructions (20_memory.md R101): what a byte stored outside the registers leaves. -/

namespace Sys2Proof.Machine

/-! ### Buses that agree outside some targets -/

/-- `t` reads as `b` does at every quiet address whose target is not among `W`, and holds the same registers, PPU memories and
cartridge. -/
structure Bus.SameOutside (W : Target → Prop) (b t : Bus) : Prop where
  reads : ∀ a, (b.target a).quiet = true → ¬W (b.target a) → (t.rd8 a).1 = (b.rd8 a).1
  regs : t.regs = b.regs
  vram : t.ppu.vram = b.ppu.vram
  cgram : t.ppu.cgram = b.ppu.cgram
  oam : t.ppu.oam = b.ppu.oam
  cart : t.cart = b.cart

theorem Bus.SameStore.sameOutside {b t : Bus} (h : b.SameStore t) (W : Target → Prop) : b.SameOutside W t :=
  ⟨fun _ hq _ => rd8_of_sameStore h hq, h.regs, h.vram, h.cgram, h.oam, h.cart⟩

theorem Bus.SameOutside.trans {W : Target → Prop} {b t u : Bus} (h : b.SameOutside W t) (g : t.SameOutside W u) :
    b.SameOutside W u where
  reads a hq hW := by
    have target := target_of_cart h.cart a
    exact (g.reads a (target ▸ hq) (target ▸ hW)).trans (h.reads a hq hW)
  regs := g.regs.trans h.regs
  vram := g.vram.trans h.vram
  cgram := g.cgram.trans h.cgram
  oam := g.oam.trans h.oam
  cart := g.cart.trans h.cart

section
variable {b : Bus} {t : Target} (m : Memory)

/-- Work-RAM is read through its own targets alone. -/
theorem readTarget_wram (h : ∀ j, t = .wram j → Cells.read m j = Cells.read b.wram j) :
    (({ b with wram := m } : Bus).readTarget Bus.readReg t).1 = (b.readTarget Bus.readReg t).1 := by
  cases t with
  | wram j => exact h j rfl
  | sram j =>
    simp only [Bus.readTarget, apply_ite Prod.fst]
    rfl
  | rom o => rfl
  | reg off =>
    simp only [Bus.readTarget, Bus.readReg, apply_ite Prod.fst]
    rfl
  | unmapped => rfl

/-- Save-RAM is read through its own targets alone. -/
theorem readTarget_sram (h : ∀ j, t = .sram j → Cells.read m j = Cells.read b.sram j) :
    (({ b with sram := m } : Bus).readTarget Bus.readReg t).1 = (b.readTarget Bus.readReg t).1 := by
  cases t with
  | wram j => rfl
  | sram j =>
    simp only [Bus.readTarget, apply_ite Prod.fst, h j rfl]
    rfl
  | rom o => rfl
  | reg off =>
    simp only [Bus.readTarget, Bus.readReg, apply_ite Prod.fst]
    rfl
  | unmapped => rfl

end

/-- A stored byte changes the byte its address decodes to, and no other. -/
theorem Bus.wr8_sameOutside {W : Target → Prop} {b : Bus} (lay : Layout) (v : Byte) {a : Addr} (hb : b.MemOk)
    (hr : (b.target a).isReg = false) (hW : W (b.target a)) : b.SameOutside W (b.wr8 lay a v) := by
  cases ht : b.target a with
  | wram i =>
    rw [ht] at hW
    rw [Bus.wr8_of_wram lay v ht]
    refine ⟨fun a' _ hn => readTarget_wram _ fun j hj => ?_, rfl, rfl, rfl, rfl, rfl⟩
    rw [Cells.read_write hb.wram.1, if_neg]
    rintro rfl
    exact hn (hj ▸ hW)
  | sram i =>
    rw [ht] at hW
    by_cases hi : i < b.saveRamSize
    · rw [Bus.wr8_of_sram lay v ht hi]
      refine ⟨fun a' _ hn => readTarget_sram _ fun j hj => ?_, rfl, rfl, rfl, rfl, rfl⟩
      rw [Cells.read_write hb.sram.1, if_neg]
      rintro rfl
      exact hn (hj ▸ hW)
    · rw [Bus.wr8_of_sram_absent lay v ht (Nat.le_of_not_lt hi)]
      exact SameStore.sameOutside (by constructor <;> rfl) W
  | rom o =>
    rw [Bus.wr8_of_rom lay v ht]
    exact (SameStore.refl b).sameOutside W
  | reg off => simp [ht, Target.isReg] at hr
  | unmapped =>
    rw [Bus.wr8_of_unmapped lay v ht]
    exact SameStore.sameOutside (by constructor <;> rfl) W

/-! ### Stores -/

/-- The targets of the `n` bytes from an effective address on. -/
def StoredBytes (b : Bus) (ea : Ea) (n : Nat) (t : Target) : Prop := ∃ k < n, t = b.target (ea.byteAddr k)

/-- A store writes its bytes at the byte addresses of the effective address. -/
theorem storeAt_eq_wr8 (ea : Ea) (w : Width) (v : Word) (s : State) :
    storeAt ea w v s = match w with
      | .w8 => s.bus.wr8 s.params.dmaLayout (ea.byteAddr 0) (lowByte v)
      | .w16 => (s.bus.wr8 s.params.dmaLayout (ea.byteAddr 0) (lowByte v)).wr8 s.params.dmaLayout (ea.byteAddr 1) (highByte v) := by
  cases ea <;> cases w <;> simp [storeAt, Ea.byteAddr]

/-- A store outside the registers changes the bytes it stores, and no other. -/
theorem storeAt_sameOutside {b : Bus} {ea : Ea} {w : Width} (v : Word) {s : State} (hb : s.bus.MemOk)
    (hcart : s.bus.cart = b.cart) (hr : ∀ k < w.bytes, (b.target (ea.byteAddr k)).isReg = false) :
    s.bus.SameOutside (StoredBytes b ea w.bytes) (storeAt ea w v s) := by
  have byte {t : Bus} (ht : t.MemOk) (hc : t.cart = b.cart) (k : Nat) (hk : k < w.bytes) (u : Byte) :
      t.SameOutside (StoredBytes b ea w.bytes) (t.wr8 s.params.dmaLayout (ea.byteAddr k) u) :=
    Bus.wr8_sameOutside _ u ht (target_of_cart hc _ ▸ hr k hk) ⟨k, hk, target_of_cart hc _⟩
  rw [storeAt_eq_wr8]
  cases w
  case w8 => exact byte hb hcart 0 (by decide) _
  case w16 =>
    exact (byte hb hcart 0 (by decide) _).trans (byte (memOk_stable.wr8 hb _ _ _) ((Bus.wr8_cart _ _ _ _).trans hcart) 1 (by decide) _)

theorem storeMeaning_bus (r : Stored) (m : Mode) (s : State) :
    ∃ v, (r.meaning m s).bus = storeAt (effAddr m s).1 (widthOf (if r = .x ∨ r = .y then s.cpu.p.x else s.cpu.p.m)) v (effAddr m s).2 := by
  cases r
  all_goals exact ⟨_, congrArg State.bus (opStore_eq m _ _ s)⟩

theorem rmwMeaning_bus (op : RmwOp) (m : Mode) (s : State) :
    ∃ v, (op.meaning m s).bus = storeAt (effAddr m s).1 (widthOf s.cpu.p.m) v (operand (.mem m) (widthOf s.cpu.p.m) s).2 := by
  cases op
  case asl | lsr | rol | ror => exact ⟨_, congrArg State.bus (opShiftMem_eq s m _)⟩
  case inc | dec => exact ⟨_, congrArg State.bus (opBumpMem_eq s m _)⟩
  case tsb => exact ⟨_, congrArg State.bus (opTsb_eq s m)⟩
  case trb => exact ⟨_, congrArg State.bus (opTrb_eq s m)⟩

/-- Settles O20: the reads before the store keep the store (`operand_sameStore`), and the store changes its bytes alone. -/
theorem storeFrame : Obligations.StoreFrame := by
  intro i m n s hb hshape ea hr
  obtain ⟨t, ht, keeps⟩ := exec_keeps i s
  have stored : ∃ w v u, n = w.bytes ∧ s.bus.SameStore u.bus ∧ u.bus.MemOk ∧ t.bus = storeAt ea w v u := by
    obtain ⟨r, hs, hn⟩ | ⟨op, hs, hn⟩ := hshape
    · cases ht.symm.trans (exec_of_storeShape s hs)
      obtain ⟨v, hv⟩ := storeMeaning_bus r m s
      exact ⟨_, v, _, hn, effAddr_sameStore m s, ((Keeps.refl s).effAddr m).bus _ memOk_stable hb, hv⟩
    · cases ht.symm.trans (exec_of_rmwShape s hs)
      obtain ⟨v, hv⟩ := rmwMeaning_bus op m s
      exact ⟨_, v, _, hn, operand_sameStore (.mem m) _ s, ((Keeps.refl s).operand (.mem m) _).bus _ memOk_stable hb, hv⟩
  obtain ⟨w, v, u, rfl, reads, hu, bus⟩ := stored
  have same := (reads.sameOutside (StoredBytes s.bus ea w.bytes)).trans (storeAt_sameOutside v hu reads.cart hr)
  rw [← bus] at same
  exact ⟨t, ht, fun a hq hn => same.reads a hq fun ⟨k, hk, h⟩ => hn k hk h, fun off => by rw [Bus.regAt, same.regs, Bus.regAt],
    fun k => by rw [Ppu.vramWord, same.vram, Ppu.vramWord], same.cgram, same.oam, same.cart, keeps.sched, keeps.params⟩

end Sys2Proof.Machine

/-! PROOFS. Reset, cartridge load and snapshots (10_state.md R90; 20_memory.md R102-R106; 60_exceptions.md R551, R634, R635;
70_reset_and_hazards.md R650-R656). -/

namespace Sys2Proof.Machine

/-! ### Reset -/

/-- The upper half of bank 0 is ROM in both mappings. -/
theorem target_bank0_rom (b : Bus) {off : Word} (h : 0x8000 ≤ off.toNat) : ∃ o, b.target (addrOf 0 off) = .rom o ∧
    (∀ c, b.cart = some c → c.mapping = .lowMapped → o = off.toNat - 0x8000) ∧
    (∀ c, b.cart = some c → c.mapping = .highMapped → o = off.toNat) := by
  have hlt := off.isLt
  have low : decodeLow 0 off.toNat = .rom (off.toNat - 0x8000) := by
    simp only [decodeLow, show ¬off.toNat < 0x2000 by omega, show ¬off.toNat ≤ 0x5FFF by omega, show ¬off.toNat ≤ 0x7FFF by omega,
      show off.toNat % 0x8000 = off.toNat - 0x8000 by omega]
    simp
  have high (r : Bool) : decodeHigh r 0 off.toNat = .rom off.toNat := by
    simp only [decodeHigh, show ¬off.toNat < 0x2000 by omega, show ¬off.toNat ≤ 0x5FFF by omega, show ¬off.toNat ≤ 0x7FFF by omega]
    simp
  simp only [Bus.target, addrBank_addrOf, addrOffset_addrOf, show (0 : Byte).toNat = 0 from rfl, low, high]
  cases hc : b.cart with
  | none => exact ⟨_, rfl, nofun, nofun⟩
  | some c =>
    cases hm : c.mapping with
    | lowMapped =>
      refine ⟨_, by simp only [hm], fun _ _ _ => rfl, fun _ h hh => ?_⟩
      cases h
      cases hm.symm.trans hh
    | highMapped =>
      refine ⟨_, by simp only [hm], fun _ h hh => ?_, fun _ _ _ => rfl⟩
      cases h
      cases hm.symm.trans hh

/-- What `reset()` leaves, with PC from the vector's two ROM bytes. -/
theorem hostReset_eq (s : State) {lo hi : Nat} (hlo : s.bus.reset.target (addrOf 0 0xFFFC) = .rom lo)
    (hhi : s.bus.reset.target (addrOf 0 0xFFFD) = .rom hi) :
    hostReset s = { State.reset with
      cpu := { State.reset.cpu with pc := wordOf (s.bus.reset.romByte lo) (s.bus.reset.romByte hi) }
      bus := { State.reset.bus with sram := s.bus.sram, cart := s.bus.cart }
      sched := { State.reset.sched with
        running := s.sched.running, frameSink := s.sched.frameSink, irqSource := s.sched.irqSource }
      params := s.params } := by
  have first : s.bus.reset.rd8 (addrOf 0 (0xFFFC + BitVec.ofNat 16 0)) = (s.bus.reset.romByte lo, s.bus.reset) := Bus.rd8_of_rom hlo
  have second : s.bus.reset.rd8 (addrOf 0 (0xFFFC + BitVec.ofNat 16 1)) = (s.bus.reset.romByte hi, s.bus.reset) := Bus.rd8_of_rom hhi
  simp only [hostReset, readWord, rd8_eq, Ea.byteAddr, first, second]
  rfl

theorem hostReset_bus (s : State) : (hostReset s).bus = { State.reset.bus with sram := s.bus.sram, cart := s.bus.cart } := by
  obtain ⟨lo, hlo, -, -⟩ := target_bank0_rom s.bus.reset (off := 0xFFFC) (by decide)
  obtain ⟨hi, hhi, -, -⟩ := target_bank0_rom s.bus.reset (off := 0xFFFD) (by decide)
  rw [hostReset_eq s hlo hhi]

theorem Cells.ok_nil {w : Nat} (n : Nat) : Cells.ok (w := w) n [] := ⟨⟨.nil, nofun⟩, nofun⟩

theorem memOk_reset : State.reset.bus.MemOk :=
  ⟨Cells.ok_nil _, Cells.ok_nil _, Cells.ok_nil _, Cells.ok_nil _, Cells.ok_nil _, Cells.ok_nil _, nofun⟩

theorem modeOk_reset : State.reset.cpu.ModeOk := by
  constructor <;> intro _ <;> rfl

/-- Settles O45: the values by computation; the vector's bytes are ROM in both mappings (`target_bank0_rom`). -/
theorem resetState : Obligations.ResetState := by
  refine ⟨modeOk_reset, memOk_reset, rfl, ⟨fun _ => ⟨rfl, rfl, rfl⟩, by decide⟩, ⟨fun _ => ⟨rfl, rfl, rfl⟩, by decide⟩, by decide,
    fun s => ?_⟩
  obtain ⟨lo, hlo, lowLo, highLo⟩ := target_bank0_rom s.bus.reset (off := 0xFFFC) (by decide)
  obtain ⟨hi, hhi, lowHi, highHi⟩ := target_bank0_rom s.bus.reset (off := 0xFFFD) (by decide)
  refine ⟨_, _, hostReset_eq s hlo hhi, fun hc => ?_, fun c hc hm => ?_, fun c hc hm => ?_⟩
  · have none_ : s.bus.reset.cart = none := hc
    simp [Bus.romByte, none_]
  · have some_ : s.bus.reset.cart = some c := hc
    simp [Bus.romByte, some_, lowLo c hc hm, lowHi c hc hm]
  · have some_ : s.bus.reset.cart = some c := hc
    simp [Bus.romByte, some_, highLo c hc hm, highHi c hc hm]

/-! ### Cartridge load -/

theorem memOk_insert (lay : Layout) (rom : List Byte) (m : Mapping) :
    ({ State.reset.bus with cart := some (buildCartridge lay rom m) } : Bus).MemOk := by
  refine { memOk_reset with sram := Cells.ok_nil _, rom := fun c hc => ?_ }
  cases hc
  refine ⟨Cells.wf_ofList rom 0, fun p hp => ?_⟩
  have bound := (Cells.mem_ofList hp).2.1
  rwa [Nat.zero_add] at bound

theorem saveRamBytes_le (code : Byte) : saveRamBytes code ≤ 0x80000 := by
  unfold saveRamBytes
  split
  · decide
  · exact Nat.min_le_right _ _

/-- Settles O59: a load fails or inserts the cartridge of the image, whose save-RAM and memories are the reset ones. -/
theorem loadCartridgeResult : Obligations.LoadCartridge := by
  intro bytes s rom
  have stripped : stripCopier bytes = rom := rfl
  refine ⟨fun h => ?short, fun t ht => ?loads⟩
  case short => simp only [loadCartridge, stripped, if_pos h]
  case loads =>
    simp only [loadCartridge, stripped] at ht
    split at ht
    case isTrue => cases ht
    case isFalse hlen =>
      split at ht
      case h_1 => cases ht
      case h_2 m _ =>
        cases ht
        have bus := hostReset_bus { s with bus := { s.bus with cart := some (buildCartridge s.params.headerLayout rom m), sram := [] } }
        refine ⟨Nat.le_of_not_lt hlen, buildCartridge s.params.headerLayout rom m, rfl, congrArg Bus.cart bus, rfl, fun k => ?_,
          saveRamBytes_le _, congrArg Bus.sram bus, bus ▸ memOk_insert _ rom m⟩
        have := Cells.read_ofList rom 0 k
        rwa [Nat.zero_add] at this

/-! ### Snapshots -/

/-- The image's bytes put back into the saved fields of the same cartridge. -/
theorem restoredCart_self (cart : Option Cartridge) : restoredCart cart (cart.map Cartridge.withoutBytes) = cart := by
  cases cart <;> rfl

/-- Settles O60: the fingerprint decides; the same cartridge is put back whole (`restoredCart_self`). -/
theorem snapshotRoundTrip : Obligations.SnapshotRoundTrip := by
  intro s s'
  refine ⟨fun hc => ?same, fun h => if_neg h⟩
  case same =>
    have prints : (snapshot s).fingerprint = fingerprint s' := by simp only [snapshot, fingerprint, hc]
    have cart : restoredCart s'.bus.cart (snapshot s).bus.cart = s.bus.cart := by
      rw [hc]
      exact restoredCart_self s.bus.cart
    rw [restore, if_pos prints, cart]
    rfl

/-! ### Vertical blank -/

/-- Settles O57: the first branch of `tick`. -/
theorem verticalBlankEntry : Obligations.VerticalBlankEntry := by
  intro s hv hm
  have entry : (!s.bus.inVblank && decide (Config.vblankStart ≤ s.sched.master)) = true := by
    rw [hv, decide_eq_true (show Config.vblankStart ≤ s.sched.master from hm)]
    rfl
  rw [tick, if_pos entry]
  rfl

end Sys2Proof.Machine

/-! PROOFS. A frame of the scheduler ends: every batch advances the master counter (60_exceptions.md R620-R623). -/

namespace Sys2Proof.Machine

/-! ### What a step does to the clock and to the vertical blank -/

theorem baseCycles_pos (op : Byte) : 1 ≤ baseCycles op := by
  have hr : op.toNat / 16 < 16 := by have := op.isLt; omega
  have hc : op.toNat % 16 < 16 := Nat.mod_lt _ (by decide)
  have table : ∀ r < 16, ∀ c < 16, 1 ≤ (cycleRow r).getD c 0 := by decide
  exact table _ hr _ hc

/-- No instruction and no access writes `in_vblank`. -/
theorem inVblank_stable (v : Bool) : Bus.Stable (fun b => b.inVblank = v) where
  readReg off b h := (readReg_sameStore off b).inVblank.trans h
  setReg _ _ _ _ h := h
  writePort off w b _ h := by
    rw [Bus.writePort_eq]
    exact h
  wram _ _ _ _ h := h
  sram _ _ _ _ h := h
  warnMapping _ h := h
  warnSram _ h := h
  dmaBytes _ _ h := h

/-- Every step takes at least one cycle, where an idle one does. -/
theorem step_cycles {s t : State} (hp : 1 ≤ s.params.idleStepCycles) (h : step s = .next t) : s.cpu.cycles < t.cpu.cycles := by
  obtain ⟨-, rfl⟩ | ⟨-, k, -, rfl⟩ | ⟨-, -, -, rfl⟩ | ⟨-, -, -, hrun⟩ := step_cases h
  · exact Nat.lt_add_of_pos_right hp
  · have entry : (raiseInterrupt k { s with cpu := { s.cpu with waiting := false } }).cpu.cycles = s.cpu.cycles :=
      ((Keeps.refl _).raiseInterrupt k).cycles
    have cycles : (interruptStep k s).cpu.cycles = s.cpu.cycles + if s.cpu.e then 7 else 8 := congrArg (· + _) entry
    rw [cycles]
    split <;> omega
  · exact Nat.lt_add_of_pos_right hp
  · have fetched : Keeps (beginStep s) (fetch8 (beginStep s)).2 := (Keeps.refl _).fetch8
    obtain ⟨-, rfl⟩ | ⟨-, u, hu, rfl⟩ := runInstruction_cases hrun
    · exact Nat.lt_add_of_pos_right (by decide)
    · obtain ⟨u', hu', keeps⟩ := exec_keeps (fetchOperands (fetch8 (beginStep s)).1 (fetch8 (beginStep s)).2).1
        (fetchOperands (fetch8 (beginStep s)).1 (fetch8 (beginStep s)).2).2
      cases hu'.symm.trans hu
      have cycles : u.cpu.cycles = s.cpu.cycles := keeps.cycles.trans (fetched.fetchBytes _).cycles
      have base := baseCycles_pos (fetch8 (beginStep s)).1
      change s.cpu.cycles < u.cpu.cycles + (baseCycles _ + _)
      omega

/-! ### One batch -/

/-- A batch advances the master counter and leaves the rest of the frame's bookkeeping. -/
theorem batch_result {s : State} (hp : s.params.Ok) : ∃ t, batch s = .next ⟨.batch, t⟩ ∧
    s.sched.master < t.sched.master ∧ t.sched = { s.sched with master := t.sched.master, irqSource := t.sched.irqSource } ∧
    t.params = s.params ∧ t.bus.inVblank = s.bus.inVblank := by
  obtain ⟨u, hu, hs, hparams, -⟩ := stepIgnoresScheduler (sampleIrq s)
  have cycles := step_cycles (s := sampleIrq s) hp.2 hu
  have vblank : u.bus.inVblank = s.bus.inVblank := (inVblank_stable s.bus.inVblank).step hu rfl
  refine ⟨_, batch_eq_next.mpr ⟨u, hu, rfl⟩, ?_, ?_, hparams, vblank⟩
  · have pos : 0 < (u.cpu.cycles - s.cpu.cycles) * u.params.masterPerCpuCycle := by
      rw [hparams]
      exact Nat.mul_pos (Nat.sub_pos_of_lt cycles) hp.1
    change s.sched.master < u.sched.master + (u.cpu.cycles - s.cpu.cycles) * u.params.masterPerCpuCycle
    rw [hs]
    exact Nat.lt_add_of_pos_right pos
  · have keeps : u.sched = { s.sched with irqSource := u.sched.irqSource } := by
      rw [hs]
      rfl
    exact congrArg (fun q : Sched => { q with master := (addMaster (u.cpu.cycles - s.cpu.cycles) u).sched.master }) keeps

/-! ### The frame -/

/-- Scheduler actions that suffice for the rest of a frame (log 13). -/
def actionsLeft (s : State) : Nat := (Config.frame - s.sched.master) + (if s.bus.inVblank then 1 else 2)

/-- What `run_frame()` returns from a state in the frame `s` is in. -/
structure FrameDone (s : State) (r : RunResult) : Prop where
  ending : r.ending = .frameBoundary
  frameCount : r.state.sched.frameCount = s.sched.frameCount + 1
  inVblank : r.state.bus.inVblank = false
  running : r.state.sched.running = true
  buttons : r.state.sched.buttons = s.sched.buttons
  delivered : s.bus.inVblank = false → r.frames.map (·.1) = s.sched.frameSink.toList
  none_delivered : s.bus.inVblank = true → r.frames = []

/-- The first act of a frame that is neither at its vertical blank nor at its end is a batch. -/
theorem tick_eq_batch {s : State} (hr : s.sched.running = true) (hv : s.bus.inVblank = false → s.sched.master < Config.vblankStart)
    (hf : s.bus.inVblank = true → s.sched.master < Config.frame) : tick s = batch s := by
  unfold tick
  cases h : s.bus.inVblank
  case false => simp [Nat.not_le.mpr (hv h), hr]
  case true => simp [Nat.not_le.mpr (hf h), hr]

theorem tick_eq_frameEnd {s : State} (hv : s.bus.inVblank = true) (hf : Config.frame ≤ s.sched.master) :
    tick s = .next ⟨.frameEnd, frameEnd s⟩ := by
  simp [tick, hv, hf]

theorem tick_eq_vblank {s : State} (hv : s.bus.inVblank = false) (hm : Config.vblankStart ≤ s.sched.master) :
    tick s = .next ⟨.vblank (s.bus.ppu.renderFrame s.params.colorExpand) s.sched.frameSink, vblankEntry s⟩ := by
  simp [tick, hv, hm]

/-- What a frame does after one of its batches is what it does. -/
theorem FrameDone.of_batch {s t : State} {r : RunResult}
    (ht : t.sched = { s.sched with master := t.sched.master, irqSource := t.sched.irqSource })
    (hv : t.bus.inVblank = s.bus.inVblank) (h : FrameDone t r) : FrameDone s r where
  ending := h.ending
  frameCount := h.frameCount.trans (by rw [ht])
  inVblank := h.inVblank
  running := h.running
  buttons := h.buttons.trans (by rw [ht])
  delivered hs := (h.delivered (hv.trans hs)).trans (by rw [ht])
  none_delivered hs := h.none_delivered (hv.trans hs)

/-- The sink gets the picture of the vertical blank, and nothing after it. -/
theorem FrameDone.of_vblank {s : State} {r : RunResult} (fb : List Byte) (h : FrameDone (vblankEntry s) r) (hv : s.bus.inVblank = false) :
    FrameDone s { r with frames := (TickKind.vblank fb s.sched.frameSink).delivered ++ r.frames } where
  ending := h.ending
  frameCount := h.frameCount
  inVblank := h.inVblank
  running := h.running
  buttons := h.buttons
  delivered _ := by
    have rest : r.frames = [] := h.none_delivered rfl
    rw [rest]
    cases s.sched.frameSink <;> rfl
  none_delivered hs := by cases hv.symm.trans hs

/-- The end of a frame leaves `running` and the buttons. (The bound is a variable: the kernel would count down the number.) -/
theorem Sched.nextFrame_keeps (n : Nat) (q : Sched) :
    let next : Sched := { q with master := q.master - n, frameCount := q.frameCount + 1 }
    next.running = q.running ∧ next.buttons = q.buttons := ⟨rfl, rfl⟩

theorem FrameDone.of_frameEnd {s : State} (hv : s.bus.inVblank = true) (hr : s.sched.running = true) :
    FrameDone s ⟨frameEnd s, .frameBoundary, []⟩ where
  ending := rfl
  frameCount := rfl
  inVblank := rfl
  running := (Sched.nextFrame_keeps Config.frame s.sched).1.trans hr
  buttons := (Sched.nextFrame_keeps Config.frame s.sched).2
  delivered hs := by cases hv.symm.trans hs
  none_delivered _ := rfl

theorem runFrame_done (fuel : Nat) {s : State} (hp : s.params.Ok) (hr : s.sched.running = true) (hf : actionsLeft s ≤ fuel) :
    ∃ r, runFrame fuel s = .next r ∧ FrameDone s r := by
  induction fuel generalizing s with
  | zero =>
    unfold actionsLeft at hf
    split at hf <;> omega
  | succ fuel ih =>
    have byBatch (hv : s.bus.inVblank = false → s.sched.master < Config.vblankStart)
        (hm : s.bus.inVblank = true → s.sched.master < Config.frame) : ∃ r, runFrame (fuel + 1) s = .next r ∧ FrameDone s r := by
      obtain ⟨t, ht, master, sched, params, vblank⟩ := batch_result hp
      have fewer : actionsLeft t ≤ fuel := by
        have start : Config.vblankStart ≤ Config.frame := by decide
        unfold actionsLeft at hf ⊢
        rw [vblank]
        cases h : s.bus.inVblank
        case false =>
          have := hv h
          simp only [h] at hf ⊢
          omega
        case true =>
          have := hm h
          simp only [h] at hf ⊢
          omega
      obtain ⟨r, hrun, done⟩ := ih (params ▸ hp) (sched ▸ hr) fewer
      refine ⟨r, ?_, done.of_batch sched vblank⟩
      simp only [runFrame, tick_eq_batch hr hv hm, ht, hrun]
      rfl
    cases hv : s.bus.inVblank
    case false =>
      by_cases hm : Config.vblankStart ≤ s.sched.master
      · have fewer : actionsLeft (vblankEntry s) ≤ fuel := by
          unfold actionsLeft at hf ⊢
          simp only [hv, Bool.false_eq_true, ↓reduceIte] at hf
          simp only [vblankEntry, ↓reduceIte]
          omega
        obtain ⟨r, hrun, done⟩ := ih (s := vblankEntry s) hp hr fewer
        refine ⟨_, ?_, done.of_vblank (s.bus.ppu.renderFrame s.params.colorExpand) hv⟩
        simp only [runFrame, tick_eq_vblank hv hm, hrun]
      · exact byBatch (fun _ => Nat.lt_of_not_le hm) fun h => by cases hv.symm.trans h
    case true =>
      by_cases hm : Config.frame ≤ s.sched.master
      · refine ⟨_, ?_, .of_frameEnd hv hr⟩
        simp only [runFrame, tick_eq_frameEnd hv hm]
      · exact byBatch (fun h => by cases hv.symm.trans h) fun _ => Nat.lt_of_not_le hm

/-- Settles O58: `runFrame_done` for the actions of a whole frame. -/
theorem runReturnsAtFrameEnd : Obligations.RunReturnsAtFrameEnd := by
  intro s hp
  have enough : actionsLeft (setRunning true s) ≤ frameFuel := by
    unfold actionsLeft frameFuel
    split <;> omega
  obtain ⟨r, hrun, done⟩ := runFrame_done frameFuel (s := setRunning true s) hp rfl enough
  exact ⟨r, hrun, done.ending, done.frameCount, done.inVblank, done.running, done.buttons, done.delivered, done.none_delivered⟩

end Sys2Proof.Machine

/-! PROOFS. The picture pixel by pixel and by the drawing procedure, and its bytes (60_exceptions.md R580-R583). -/

namespace Sys2Proof.Machine

/-! ### One place of a range -/

/-- A range parted at one of its places. -/
theorem range_split {k n : Nat} (h : k < n) : ∃ l, List.range n = List.range k ++ k :: l ∧ ∀ i ∈ l, k < i := by
  obtain ⟨j, rfl⟩ := Nat.exists_eq_add_of_lt h
  refine ⟨(List.range j).map (k + 1 + ·), ?_, ?_⟩
  · rw [Nat.add_assoc, List.range_add, List.range_succ_eq_map, List.map_cons, List.map_map]
    simp [Function.comp_def, Nat.add_assoc, Nat.add_comm 1]
  · intro i hi
    obtain ⟨m, -, rfl⟩ := List.mem_map.mp hi
    omega

/-! ### The last write of a drawing -/

/-- What one write of the drawing procedure does to pixel (`y`, `x`). -/
def drawOn (y x : Nat) (px : Rgba) (d : Draw) : Rgba := if d.y = y ∧ d.x = x then d.px else px

theorem drawnPixel_eq (y x : Nat) (draws : List Draw) : drawnPixel y x draws = draws.foldl (drawOn y x) .black := rfl

section
variable {y x : Nat}

theorem foldl_drawOn_elsewhere {draws : List Draw} (h : ∀ d ∈ draws, ¬(d.y = y ∧ d.x = x)) (px : Rgba) :
    draws.foldl (drawOn y x) px = px := by
  induction draws with
  | nil => rfl
  | cons d draws ih =>
    rw [List.foldl_cons, drawOn, if_neg (h d (by simp)), ih fun d' hd' => h d' (by simp [hd'])]

/-- Of drawings one after another, those of one place alone draw the pixel. -/
theorem foldl_drawOn_range {n k : Nat} (hk : k < n) {f : Nat → List Draw}
    (h : ∀ i, ∀ d ∈ f i, d.y = y ∧ d.x = x → i = k) (px : Rgba) :
    ((List.range n).flatMap f).foldl (drawOn y x) px = (f k).foldl (drawOn y x) px := by
  obtain ⟨l, hl, later⟩ := range_split hk
  have before : ∀ d ∈ (List.range k).flatMap f, ¬(d.y = y ∧ d.x = x) := by
    intro d hd hyx
    obtain ⟨i, hi, hdi⟩ := List.mem_flatMap.mp hd
    have := h i d hdi hyx
    simp at hi
    omega
  have after : ∀ d ∈ l.flatMap f, ¬(d.y = y ∧ d.x = x) := by
    intro d hd hyx
    obtain ⟨i, hi, hdi⟩ := List.mem_flatMap.mp hd
    have := h i d hdi hyx
    have := later i hi
    omega
  rw [hl, List.flatMap_append, List.flatMap_cons, List.foldl_append, List.foldl_append, foldl_drawOn_elsewhere before,
    foldl_drawOn_elsewhere after]

/-- Where a tile's write lands. -/
theorem place_of_mem {o : Option Rgba} {py px : Nat} {d : Draw} (hd : d ∈ (o.map fun c => (⟨py, px, c⟩ : Draw)).toList) :
    d.y = py ∧ d.x = px := by
  obtain ⟨c, -, rfl⟩ := Option.map_eq_some_iff.mp (Option.mem_toList.mp hd)
  exact ⟨rfl, rfl⟩

theorem foldl_drawOn_map (o : Option Rgba) (px : Rgba) :
    (o.map fun c => (⟨y, x, c⟩ : Draw)).toList.foldl (drawOn y x) px = o.getD px := by
  cases o with
  | none => rfl
  | some c => exact if_pos ⟨rfl, rfl⟩

/-- A layer draws each pixel once, at its tile, row and column (log 14). -/
theorem foldl_drawLayer (e : ColorExpand) (p : Ppu) (n b : Nat) (hy : y < 224) (hx : x < 256) (px : Rgba) :
    (p.drawLayer e n b).foldl (drawOn y x) px = (p.layerPixel e n b (y / 8) (x / 8) (y % 8) (x % 8)).getD px := by
  have hrow : 8 * (y / 8) + y % 8 = y := Nat.div_add_mod y 8
  have hcol : 8 * (x / 8) + x % 8 = x := Nat.div_add_mod x 8
  have draw := foldl_drawOn_map (y := y) (x := x) (p.layerPixel e n b (y / 8) (x / 8) (y % 8) (x % 8)) px
  simp only [Ppu.drawLayer, List.filterMap_eq_flatMap_toList]
  rw [foldl_drawOn_range (k := y / 8) (by omega) ?tileRow, foldl_drawOn_range (k := x / 8) (by omega) ?tileColumn,
    foldl_drawOn_range (k := y % 8) (by omega) ?row, foldl_drawOn_range (k := x % 8) (by omega) ?column, hrow, hcol, draw]
  case tileRow =>
    intro ty d hd hyx
    simp only [List.mem_flatMap, List.mem_range] at hd
    obtain ⟨tx, -, row, hrow, col, hcol, hd⟩ := hd
    have := place_of_mem hd
    omega
  case tileColumn =>
    intro tx d hd hyx
    simp only [List.mem_flatMap, List.mem_range] at hd
    obtain ⟨row, hrow, col, hcol, hd⟩ := hd
    have := place_of_mem hd
    omega
  case row =>
    intro row d hd hyx
    simp only [List.mem_flatMap, List.mem_range] at hd
    obtain ⟨col, hcol, hd⟩ := hd
    have := place_of_mem hd
    omega
  case column =>
    intro col d hd hyx
    have := place_of_mem hd
    omega

end

theorem pixel_eq_drawnPixel (e : ColorExpand) (p : Ppu) {y x : Nat} (hy : y < 224) (hx : x < 256) :
    p.pixel e y x = drawnPixel y x (p.drawFrame e) := by
  rw [drawnPixel_eq, Ppu.drawFrame, Ppu.pixel]
  generalize Rgba.black = px
  induction p.drawnLayers generalizing px with
  | nil => rfl
  | cons n layers ih => rw [List.foldl_cons, List.flatMap_cons, List.foldl_append, foldl_drawLayer e p n _ hy hx, ih]

/-! ### The bytes of a picture -/

section
variable {α : Type} {f : Nat → List α} {m : Nat} (hf : ∀ i, (f i).length = m)
include hf

theorem length_flatMap_range (n : Nat) : ((List.range n).flatMap f).length = m * n := by
  induction n with
  | zero => rfl
  | succ n ih =>
    rw [List.range_succ, List.flatMap_append, List.length_append, ih]
    simp [hf, Nat.mul_succ]

/-- Pieces of one length stand at its multiples. -/
theorem drop_flatMap_range {n k : Nat} (hk : k < n) : ∃ rest, ((List.range n).flatMap f).drop (m * k) = f k ++ rest := by
  obtain ⟨l, hl, -⟩ := range_split hk
  refine ⟨l.flatMap f, ?_⟩
  rw [hl, List.flatMap_append, List.flatMap_cons]
  exact List.drop_left' (length_flatMap_range hf k)

end

/-- The bytes of one pixel, R, G, B, A (60_exceptions.md R580). -/
def Rgba.bytes (c : Rgba) : List Byte := [c.r, c.g, c.b, c.a]

theorem renderFrame_eq (e : ColorExpand) (p : Ppu) : p.renderFrame e =
    (List.range 224).flatMap fun y => (List.range 256).flatMap fun x => (p.pixel e y x).bytes := rfl

theorem row_length (e : ColorExpand) (p : Ppu) (y : Nat) : ((List.range 256).flatMap fun x => (p.pixel e y x).bytes).length = 1024 :=
  length_flatMap_range (m := 4) (fun _ => rfl) 256

theorem renderFrame_length (e : ColorExpand) (p : Ppu) : (p.renderFrame e).length = 229376 := by
  rw [renderFrame_eq, length_flatMap_range (m := 1024) (row_length e p)]

/-- A pixel's four bytes, row by row. -/
theorem renderFrame_pixel (e : ColorExpand) (p : Ppu) {y x : Nat} (hy : y < 224) (hx : x < 256) :
    ((p.renderFrame e).drop (4 * (256 * y + x))).take 4 = (p.pixel e y x).bytes := by
  obtain ⟨rows, hrows⟩ := drop_flatMap_range (m := 1024) (row_length e p) hy
  obtain ⟨pixels, hpixels⟩ := drop_flatMap_range (f := fun x => (p.pixel e y x).bytes) (m := 4) (fun _ => rfl) hx
  have place : 4 * (256 * y + x) = 1024 * y + 4 * x := by omega
  have inside : 4 * x ≤ ((List.range 256).flatMap fun x => (p.pixel e y x).bytes).length := by
    rw [row_length]
    omega
  rw [renderFrame_eq, place, ← List.drop_drop, hrows, List.drop_append_of_le_length inside, hpixels, List.append_assoc]
  rfl

/-- Settles O56: pixel by pixel (`pixel_eq_drawnPixel`), byte by byte (`renderFrame_pixel`). -/
theorem pixelIsLastDrawn : Obligations.PixelIsLastDrawn := fun e p _ _ hy hx =>
  ⟨pixel_eq_drawnPixel e p hy hx, renderFrame_pixel e p hy hx, renderFrame_length e p⟩

end Sys2Proof.Machine

/-! PROOFS. DMA transfers (20_memory.md R140-R143): the bytes one after another, what each of them changes, and the last byte that a
register or a byte of memory gets. -/

namespace Sys2Proof.Machine

/-! ### The last of a row of writes -/

section
variable {α : Type} {P : Nat → Prop} [DecidablePred P] {F v : Nat → α} (step : ∀ m, F (m + 1) = if P m then v m else F m)
include step

/-- A cell that none of the writes is to. -/
theorem unwritten_of_steps {n : Nat} (h : ∀ i < n, ¬P i) : F n = F 0 := by
  induction n with
  | zero => rfl
  | succ n ih => rw [step, if_neg (h n (by omega)), ih fun i hi => h i (by omega)]

/-- The last write to a cell stands. -/
theorem last_of_steps {n i : Nat} (hi : i < n) (hP : P i) (h : ∀ j < n, i < j → ¬P j) : F n = v i := by
  induction n with
  | zero => omega
  | succ n ih =>
    by_cases hin : i = n
    · rw [← hin, step, if_pos hP]
    · rw [step, if_neg (h n (by omega) (by omega)), ih (by omega) fun j hj => h j (by omega)]

end

/-! ### The bytes of a transfer -/

/-- The A-bus offset of byte `i`. -/
def Channel.offset (c : Channel) (i : Nat) : Word := if c.fixed then c.aOff else c.aOff + BitVec.ofNat 16 i

theorem dmaAddr_eq (c : Channel) (i : Nat) : dmaAddr c i = addrOf c.aBank (c.offset i) := rfl

theorem Channel.offset_succ (c : Channel) (i : Nat) : (if c.fixed then c.offset i else c.offset i + 1) = c.offset (i + 1) := by
  unfold Channel.offset
  split
  · rfl
  · rw [BitVec.add_assoc, BitVec.ofNat_add]
    rfl

/-- The bus after the first `n` bytes. -/
def Bus.dmaRun (c : Channel) (b : Bus) (n : Nat) : Bus := (List.range n).foldl (fun b i => b.dmaByte c i (c.offset i)) b

theorem Bus.dmaRun_succ (c : Channel) (b : Bus) (n : Nat) : b.dmaRun c (n + 1) = (b.dmaRun c n).dmaByte c n (c.offset n) := by
  simp [dmaRun, List.range_succ]

theorem Bus.dmaLoop_eq (c : Channel) (n i : Nat) (b : Bus) : Bus.dmaLoop c n i (c.offset i) b =
    (c.offset (i + n), (List.range n).foldl (fun b k => b.dmaByte c (i + k) (c.offset (i + k))) b) := by
  induction n generalizing i b with
  | zero => rfl
  | succ n ih =>
    rw [dmaLoop, Channel.offset_succ, ih, List.range_succ_eq_map, List.foldl_cons, List.foldl_map]
    simp only [Nat.add_zero, Nat.succ_eq_add_one, Nat.add_assoc, Nat.add_comm 1]

theorem Bus.dmaLoop_eq_dmaRun (c : Channel) (n : Nat) (b : Bus) : Bus.dmaLoop c n 0 c.aOff b = (c.offset n, b.dmaRun c n) := by
  have start : c.offset 0 = c.aOff := by
    unfold Channel.offset
    split
    · rfl
    · exact BitVec.add_zero _
  have loop := Bus.dmaLoop_eq c n 0 b
  simp only [start, Nat.zero_add] at loop
  exact loop

/-- The mode's pattern as a formula (20_memory.md R143). -/
theorem dmaPattern_getD (mode i : Nat) : (dmaPattern mode).getD (i % (dmaPattern mode).length) 0 = dmaStride mode i := by
  have two : i % 2 < 2 := Nat.mod_lt _ (by decide)
  have four : i % 4 < 4 := Nat.mod_lt _ (by decide)
  have pairs (r : Nat) (hr : r < 2) : [0, 0].getD r 0 = 0 := by interval_cases r <;> rfl
  have alternating (r : Nat) (hr : r < 2) : [0, 1].getD r 0 = r := by interval_cases r <;> rfl
  have halves (r : Nat) (hr : r < 4) : [0, 0, 1, 1].getD r 0 = r / 2 := by interval_cases r <;> rfl
  have quarters (r : Nat) (hr : r < 4) : [0, 1, 2, 3].getD r 0 = r := by interval_cases r <;> rfl
  have twice (r : Nat) (hr : r < 4) : [0, 1, 0, 1].getD r 0 = r % 2 := by interval_cases r <;> rfl
  match mode with
  | 0 => simp [dmaPattern, dmaStride, Nat.mod_one]
  | 1 => exact alternating _ two
  | 2 => exact pairs _ two
  | 3 => exact halves _ four
  | 4 => exact quarters _ four
  | 5 => exact (twice _ four).trans (Nat.mod_mod_of_dvd i (by decide))
  | 6 => exact pairs _ two
  | n + 7 => exact halves _ four

theorem bReg_eq (c : Channel) (i : Nat) : c.bReg i = dmaReg c i :=
  congrArg (fun o => 0x2100 + (c.breg.toNat + o) % 256) (dmaPattern_getD c.mode i)

theorem dmaReg_range (c : Channel) (i : Nat) : 0x2100 ≤ dmaReg c i ∧ dmaReg c i ≤ 0x21FF := bReg_eq c i ▸ bReg_range c i

theorem dmaRun_memOk {b : Bus} (hb : b.MemOk) (c : Channel) (n : Nat) : (b.dmaRun c n).MemOk := by
  induction n with
  | zero => exact hb
  | succ n ih => exact Bus.dmaRun_succ c b n ▸ memOk_stable.dmaByte ih c n _

theorem dmaRun_cart (c : Channel) (b : Bus) (n : Nat) : (b.dmaRun c n).cart = b.cart := by
  induction n with
  | zero => rfl
  | succ n ih => exact Bus.dmaRun_succ c b n ▸ (cart_stable b.cart).dmaByte ih c n _

/-! ### From the A-bus to a register -/

/-- The A-bus read of a byte: its source, and the bus but for a warning. -/
theorem abusRead_eq (c : Channel) (i : Nat) (b : Bus) : ∃ w w', b.abusRead (dmaAddr c i) =
    (dmaSource c i b, { b with mappingWarnings := w, sramBoundsWarnings := w' }) := by
  unfold Bus.abusRead dmaSource Bus.rd8
  cases b.target (dmaAddr c i) with
  | wram k => exact ⟨_, _, rfl⟩
  | rom o => exact ⟨_, _, rfl⟩
  | reg off => exact ⟨_, _, rfl⟩
  | unmapped => exact ⟨_, _, rfl⟩
  | sram k =>
    simp only [Bus.readTarget]
    split <;> exact ⟨_, _, rfl⟩

/-- A byte's source depends on the memories alone. -/
theorem dmaSource_congr {b b' : Bus} (c : Channel) (i : Nat) (hw : b'.wram = b.wram) (hs : b'.sram = b.sram)
    (hc : b'.cart = b.cart) : dmaSource c i b' = dmaSource c i b := by
  unfold dmaSource Bus.rd8
  rw [target_of_cart hc]
  cases b.target (dmaAddr c i) with
  | wram k => simp only [Bus.readTarget, hw]
  | sram k =>
    simp only [Bus.readTarget, Bus.saveRamSize, hs, hc]
    by_cases hk : k < (b.cart.map (·.saveRamSize)).getD 0 <;> simp [hk]
  | rom o => simp only [Bus.readTarget, Bus.romByte, hc]
  | reg off => rfl
  | unmapped => rfl

section
variable {c : Channel} (hA : c.toA = false) (b : Bus)
include hA

/-- One byte to a register: a port write of its source. -/
theorem dmaByte_toReg (i : Nat) : ∃ w w', b.dmaByte c i (c.offset i) =
    ({ b with mappingWarnings := w, sramBoundsWarnings := w' } : Bus).writePort (dmaReg c i) (dmaSource c i b) := by
  obtain ⟨w, w', h⟩ := abusRead_eq c i b
  refine ⟨w, w', ?_⟩
  simp only [Bus.dmaByte, hA, Bool.false_eq_true, ↓reduceIte, ← dmaAddr_eq, h, bReg_eq]

/-- The memories the sources are in stay through the transfer. -/
theorem dmaRun_toReg_keeps (n : Nat) :
    (b.dmaRun c n).wram = b.wram ∧ (b.dmaRun c n).sram = b.sram ∧ (b.dmaRun c n).dmaBytes = b.dmaBytes := by
  induction n with
  | zero => exact ⟨rfl, rfl, rfl⟩
  | succ n ih =>
    obtain ⟨w, w', h⟩ := dmaByte_toReg hA (b.dmaRun c n) n
    rw [Bus.dmaRun_succ, h, Bus.writePort_eq]
    exact ih

/-- So each byte's source can be read off the bus at the start. -/
theorem dmaRun_toReg_succ (n : Nat) : ∃ w w', b.dmaRun c (n + 1) =
    ({ b.dmaRun c n with mappingWarnings := w, sramBoundsWarnings := w' } : Bus).writePort (dmaReg c n) (dmaSource c n b) := by
  obtain ⟨w, w', h⟩ := dmaByte_toReg hA (b.dmaRun c n) n
  obtain ⟨hw, hs, -⟩ := dmaRun_toReg_keeps hA b n
  rw [dmaSource_congr c n hw hs (dmaRun_cart c b n)] at h
  exact ⟨w, w', (Bus.dmaRun_succ c b n).trans h⟩

theorem dmaRun_toReg_ppu (n : Nat) :
    (b.dmaRun c n).ppu = (List.range n).foldl (fun p i => p.writePort (dmaReg c i) (dmaSource c i b)) b.ppu := by
  induction n with
  | zero => rfl
  | succ n ih =>
    obtain ⟨w, w', h⟩ := dmaRun_toReg_succ hA b n
    rw [h, Bus.writePort_eq, List.range_succ, List.foldl_append, ← ih]
    rfl

variable {b}

/-- The flat-array byte of a register, byte by byte. -/
theorem dmaRun_toReg_regAt (hb : b.MemOk) {off : Nat} (ho : 0x2000 ≤ off) (n : Nat) : (b.dmaRun c (n + 1)).regAt off =
    if dmaReg c n = off then dmaSource c n b else (b.dmaRun c n).regAt off := by
  have range := dmaReg_range c n
  obtain ⟨w, w', h⟩ := dmaRun_toReg_succ hA b n
  rw [h, Bus.writePort_eq, Bus.regAt, Cells.read_write (dmaRun_memOk hb c n).regs.1]
  exact if_congr (by omega) rfl rfl

/-- What an audio port reads as, byte by byte. -/
theorem dmaRun_toReg_audio {off : Nat} (h1 : 0x2140 ≤ off) (h2 : off ≤ 0x2143) (n : Nat) : ((b.dmaRun c (n + 1)).readReg off).1 =
    if dmaReg c n = off then dmaSource c n b else ((b.dmaRun c n).readReg off).1 := by
  obtain ⟨w, w', h⟩ := dmaRun_toReg_succ hA b n
  rw [h, Bus.writePort_eq]
  interval_cases off
  all_goals rfl

end

/-! ### From a register to the A-bus -/

/-- A bus with the RAM and the warnings of another. -/
def Bus.withRam (b u : Bus) : Bus :=
  { b with
    wram := u.wram
    sram := u.sram
    mappingWarnings := u.mappingWarnings
    sramBoundsWarnings := u.sramBoundsWarnings }

/-- Registers are read without the RAM. -/
theorem readReg_withRam (off : Nat) (b u : Bus) :
    (b.withRam u).readReg off = ((b.readReg off).1, (b.readReg off).2.withRam u) := by
  have branch {c : Prop} [Decidable c] {p q p' q' : Byte × Bus} (hp : p' = (p.1, p.2.withRam u)) (hq : q' = (q.1, q.2.withRam u)) :
      (if c then p' else q') = ((if c then p else q).1, (if c then p else q).2.withRam u) := by
    split <;> assumption
  unfold Bus.readReg
  iterate 10 refine branch rfl ?_
  rfl

/-- A byte written on the A-bus: RAM changes at its target alone, and nothing else but a warning. -/
theorem abusWrite_eq (a : Addr) (v : Byte) {b : Bus} (hb : b.MemOk) :
    b.abusWrite a v = b.withRam (b.abusWrite a v) ∧
    (∀ k, Cells.read (b.abusWrite a v).wram k = if b.target a = .wram k then v else Cells.read b.wram k) ∧
    (∀ k, Cells.read (b.abusWrite a v).sram k = if b.target a = .sram k ∧ k < b.saveRamSize then v else Cells.read b.sram k) := by
  unfold Bus.abusWrite Bus.writeTarget
  cases b.target a with
  | wram i =>
    refine ⟨rfl, fun k => ?_, fun k => ?_⟩
    · rw [Cells.read_write hb.wram.1]
      exact if_congr (by simp [eq_comm]) rfl rfl
    · simp
  | sram i =>
    by_cases hi : i < b.saveRamSize
    · simp only [if_pos hi]
      refine ⟨rfl, fun k => by simp, fun k => ?_⟩
      rw [Cells.read_write hb.sram.1]
      refine if_congr ?_ rfl rfl
      simp only [Target.sram.injEq]
      constructor
      · rintro rfl
        exact ⟨rfl, hi⟩
      · exact fun h => h.1.symm
    · simp only [if_neg hi]
      refine ⟨rfl, fun k => by simp [Bus.warnSram], fun k => ?_⟩
      rw [if_neg]
      · rfl
      · rintro ⟨h, hk⟩
        cases h
        exact hi hk
  | rom o => exact ⟨rfl, fun k => by simp, fun k => by simp⟩
  | reg off => exact ⟨rfl, fun k => by simp, fun k => by simp⟩
  | unmapped => exact ⟨rfl, fun k => by simp [Bus.warnMapping], fun k => by simp [Bus.warnMapping]⟩

theorem dmaReads_succ (c : Channel) (n : Nat) (b : Bus) : dmaReads c (n + 1) b = ((dmaReads c n b).readReg (dmaReg c n)).2 := by
  simp [dmaReads, List.range_succ]

theorem dmaReads_sameStore (c : Channel) (n : Nat) (b : Bus) : b.SameStore (dmaReads c n b) := by
  induction n with
  | zero => exact .refl b
  | succ n ih => exact dmaReads_succ c n b ▸ ih.trans (readReg_sameStore _ _)

section
variable {c : Channel} (hA : c.toA = true) {b : Bus} (hb : b.MemOk)
include hA

theorem dmaByte_fromReg (i : Nat) (b : Bus) : b.dmaByte c i (c.offset i) =
    (b.readReg (dmaReg c i)).2.abusWrite (dmaAddr c i) (b.readReg (dmaReg c i)).1 := by
  simp only [Bus.dmaByte, hA, ↓reduceIte, ← dmaAddr_eq, bReg_eq]

include hb

/-- Beside the RAM the transfer is the port reads in order. -/
theorem dmaRun_fromReg (n : Nat) : b.dmaRun c n = (dmaReads c n b).withRam (b.dmaRun c n) := by
  induction n with
  | zero => rfl
  | succ n ih =>
    have next := memOk_stable.readReg (dmaReg c n) _ (dmaRun_memOk hb c n)
    obtain ⟨rest, -, -⟩ := abusWrite_eq (dmaAddr c n) ((b.dmaRun c n).readReg (dmaReg c n)).1 next
    have reads := readReg_withRam (dmaReg c n) (dmaReads c n b) (b.dmaRun c n)
    rw [← ih] at reads
    rw [Bus.dmaRun_succ, dmaByte_fromReg hA, dmaReads_succ]
    generalize ((b.dmaRun c n).readReg (dmaReg c n)).2.abusWrite _ _ = written at rest ⊢
    have port : ((b.dmaRun c n).readReg (dmaReg c n)).2 = ((dmaReads c n b).readReg (dmaReg c n)).2.withRam (b.dmaRun c n) := by
      rw [reads]
    have twice := rest.trans (congrArg (fun u : Bus => u.withRam written) port)
    exact twice

/-- The byte that goes to the A-bus is what the port read gives after the reads before it. -/
theorem dmaRun_fromReg_value (n : Nat) :
    ((b.dmaRun c n).readReg (dmaReg c n)).1 = ((dmaReads c n b).readReg (dmaReg c n)).1 := by
  have reads := readReg_withRam (dmaReg c n) (dmaReads c n b) (b.dmaRun c n)
  rw [← dmaRun_fromReg hA hb n] at reads
  rw [reads]

/-- RAM, byte by byte. -/
theorem dmaRun_fromReg_ram (n : Nat) :
    (∀ k, Cells.read (b.dmaRun c (n + 1)).wram k =
      if b.target (dmaAddr c n) = .wram k then ((dmaReads c n b).readReg (dmaReg c n)).1 else Cells.read (b.dmaRun c n).wram k) ∧
    (∀ k, Cells.read (b.dmaRun c (n + 1)).sram k =
      if b.target (dmaAddr c n) = .sram k ∧ k < b.saveRamSize then ((dmaReads c n b).readReg (dmaReg c n)).1
      else Cells.read (b.dmaRun c n).sram k) := by
  have store := readReg_sameStore (dmaReg c n) (b.dmaRun c n)
  have cart := store.cart.trans (dmaRun_cart c b n)
  have size : ((b.dmaRun c n).readReg (dmaReg c n)).2.saveRamSize = b.saveRamSize := by simp only [Bus.saveRamSize, cart]
  obtain ⟨-, wram, sram⟩ := abusWrite_eq (dmaAddr c n) ((b.dmaRun c n).readReg (dmaReg c n)).1
    (memOk_stable.readReg (dmaReg c n) _ (dmaRun_memOk hb c n))
  rw [Bus.dmaRun_succ, dmaByte_fromReg hA]
  simp only [target_of_cart cart, size, store.wram, store.sram, dmaRun_fromReg_value hA hb] at wram sram ⊢
  exact ⟨wram, sram⟩

end

/-! ### RAM in a bank -/

/-- Where work-RAM begins in a bank. -/
def wramBase (bank : Nat) : Nat := if bank = 0x7E ∨ bank = 0x7F then bank % 2 * 0x10000 else 0

theorem decodeLow_ram (bank o k : Nat) :
    (decodeLow bank o = .wram k → k = wramBase bank + o) ∧
    (decodeLow bank o = .sram k → k = (bank - 0x70) * 0x8000 + o) := by
  unfold decodeLow wramBase
  constructor
  all_goals
    intro h
    split_ifs at h ⊢
    all_goals
      cases h
      omega

theorem decodeHigh_ram (r : Bool) (bank o k : Nat) :
    (decodeHigh r bank o = .wram k → k = wramBase bank + o) ∧
    (decodeHigh r bank o = .sram k → k + 0x6000 = (bank - 0x20) * 0x2000 + o) := by
  unfold decodeHigh wramBase
  constructor
  all_goals
    intro h
    split_ifs at h ⊢
    all_goals
      simp only [Target.wram.injEq, Target.sram.injEq] at h
      omega

/-- In a bank the byte of work-RAM or of save-RAM goes up with the offset. -/
theorem target_ram (b : Bus) (bank : Byte) : ∃ w m n : Nat, ∀ (o : Word) (k : Nat),
    (b.target (addrOf bank o) = .wram k → k = w + o.toNat) ∧ (b.target (addrOf bank o) = .sram k → k + m = n + o.toNat) := by
  simp only [Bus.target, addrBank_addrOf, addrOffset_addrOf]
  split
  · exact ⟨wramBase bank.toNat, 0, (bank.toNat - 0x70) * 0x8000, fun o => decodeLow_ram _ o.toNat⟩
  · split
    · exact ⟨wramBase bank.toNat, 0, (bank.toNat - 0x70) * 0x8000, fun o => decodeLow_ram _ o.toNat⟩
    · exact ⟨wramBase bank.toNat, 0x6000, (bank.toNat - 0x20) * 0x2000, fun o => decodeHigh_ram _ _ o.toNat⟩

/-- Within a bank two offsets never decode to the same byte of RAM. -/
theorem target_inj_of_holdsRam {b : Bus} {bank : Byte} {o o' : Word} (h : b.holdsRam (b.target (addrOf bank o)) = true)
    (heq : b.target (addrOf bank o') = b.target (addrOf bank o)) : o' = o := by
  obtain ⟨w, m, n, ram⟩ := target_ram b bank
  apply BitVec.eq_of_toNat_eq
  cases ht : b.target (addrOf bank o) with
  | wram k =>
    have h1 := (ram o k).1 ht
    have h2 := (ram o' k).1 (heq.trans ht)
    omega
  | sram k =>
    have h1 := (ram o k).2 ht
    have h2 := (ram o' k).2 (heq.trans ht)
    omega
  | rom | reg | unmapped => simp [ht, Bus.holdsRam] at h


/-! ### The end of a transfer -/

section
variable (lay : Layout) {ch : Nat} {b : Bus}

theorem Bus.dmaTransfer_eq (b : Bus) : ∃ m, b.dmaTransfer lay ch =
    { b.dmaRun (b.dmaChannel lay ch) (b.dmaChannel lay ch).count with
      regs := m
      dmaBytes := (b.dmaRun (b.dmaChannel lay ch) (b.dmaChannel lay ch).count).dmaBytes + (b.dmaChannel lay ch).count } := by
  unfold Bus.dmaTransfer
  simp only [Bus.dmaLoop_eq_dmaRun, Bus.setReg]
  generalize b.dmaRun _ _ = u
  generalize (b.dmaChannel lay ch).count = n
  exact ⟨_, rfl⟩

/-- Beside the flat array and the count of bytes a transfer leaves what its bytes leave. -/
theorem dmaTransfer_store (b : Bus) :
    let c := b.dmaChannel lay ch
    let t := b.dmaTransfer lay ch
    let u := b.dmaRun c c.count
    t.wram = u.wram ∧ t.sram = u.sram ∧ t.cart = u.cart ∧ t.ppu = u.ppu ∧ t.dmaBytes = u.dmaBytes + c.count := by
  obtain ⟨m, h⟩ := Bus.dmaTransfer_eq lay (ch := ch) b
  rw [h]
  exact ⟨rfl, rfl, rfl, rfl, rfl⟩

theorem Bus.regAt_setReg (hb : Cells.wf b.regs) {off r : Nat} (ho : 0x2000 ≤ off) (hr : 0x2000 ≤ r) (v : Byte) :
    (b.setReg off v).regAt r = if r = off then v else b.regAt r :=
  (Cells.read_write hb).trans (if_congr (by omega) rfl rfl)

/-- The flat array after a transfer: the channel's A offset and size, and else what the bytes left. -/
theorem dmaTransfer_regAt (hb : b.MemOk) {r : Nat} (hr : 0x2000 ≤ r) : (b.dmaTransfer lay ch).regAt r =
    let c := b.dmaChannel lay ch
    let o := channelOffsets lay
    if r = channelBase ch + o.size + 1 then 0 else if r = channelBase ch + o.size then 0
    else if r = channelBase ch + o.aOff + 1 then highByte (c.offset c.count)
    else if r = channelBase ch + o.aOff then lowByte (c.offset c.count)
    else (b.dmaRun c c.count).regAt r := by
  have base : 0x2000 ≤ channelBase ch := by unfold channelBase; omega
  have wf {u : Bus} (hu : Cells.wf u.regs) (off : Nat) (v : Byte) : Cells.wf (u.setReg off v).regs := Cells.wf_write hu
  unfold Bus.dmaTransfer
  simp only [Bus.dmaLoop_eq_dmaRun]
  have run := (dmaRun_memOk hb (b.dmaChannel lay ch) (b.dmaChannel lay ch).count).regs.1
  generalize b.dmaRun _ _ = u at run ⊢
  have one := wf run (channelBase ch + (channelOffsets lay).aOff) (lowByte ((b.dmaChannel lay ch).offset (b.dmaChannel lay ch).count))
  have two := wf one (channelBase ch + (channelOffsets lay).aOff + 1) (highByte ((b.dmaChannel lay ch).offset (b.dmaChannel lay ch).count))
  have three := wf two (channelBase ch + (channelOffsets lay).size) 0
  refine (Bus.regAt_setReg three (by omega) hr 0).trans ?_
  rw [Bus.regAt_setReg two (by omega) hr, Bus.regAt_setReg one (by omega) hr, Bus.regAt_setReg run (by omega) hr]

/-- The channel's own registers: no size left, and the A offset after the last byte. -/
theorem dmaTransfer_channel (hb : b.MemOk) :
    let c := b.dmaChannel lay ch
    let t := b.dmaTransfer lay ch
    let size := channelBase ch + (channelOffsets lay).size
    let aOff := channelBase ch + (channelOffsets lay).aOff
    t.regAt size = 0 ∧ t.regAt (size + 1) = 0 ∧ wordOf (t.regAt aOff) (t.regAt (aOff + 1)) = c.offset c.count := by
  have apart : (channelOffsets lay).aOff + 2 ≤ (channelOffsets lay).size := by cases lay <;> decide
  have base : 0x2000 ≤ channelBase ch := by unfold channelBase; omega
  have reg {r : Nat} (hr : channelBase ch ≤ r) := dmaTransfer_regAt lay (ch := ch) hb (base.trans hr)
  refine ⟨?_, ?_, ?_⟩
  · rw [reg (by omega)]
    simp
  · rw [reg (by omega)]
    simp
  · rw [reg (by omega), reg (by omega)]
    simp only [↓reduceIte]
    repeat rw [if_neg (by omega)]
    exact wordOf_bytes _

/-- Below the channels the flat array is as the bytes leave it. -/
theorem dmaTransfer_regAt_below (hb : b.MemOk) {r : Nat} (h1 : 0x2000 ≤ r) (h2 : r < 0x4300) :
    (b.dmaTransfer lay ch).regAt r = (b.dmaRun (b.dmaChannel lay ch) (b.dmaChannel lay ch).count).regAt r := by
  have base : r < channelBase ch := by unfold channelBase; omega
  rw [dmaTransfer_regAt lay hb h1]
  simp only
  repeat rw [if_neg (by omega)]

theorem dmaTransfer_audio {r : Nat} (h1 : 0x2140 ≤ r) (h2 : r ≤ 0x2143) (b : Bus) : ((b.dmaTransfer lay ch).readReg r).1 =
    ((b.dmaRun (b.dmaChannel lay ch) (b.dmaChannel lay ch).count).readReg r).1 := by
  obtain ⟨m, h⟩ := Bus.dmaTransfer_eq lay (ch := ch) b
  rw [h]
  generalize b.dmaRun _ _ = u
  interval_cases r
  all_goals rfl

end

/-! ### What the bytes leave, from the last byte of each place -/

section
variable {c : Channel} (hA : c.toA = false) {b : Bus}
include hA

theorem dmaRun_toReg_last (hb : b.MemOk) {n i : Nat} (hi : i < n) (last : ∀ j < n, i < j → dmaReg c j ≠ dmaReg c i) :
    (b.dmaRun c n).regAt (dmaReg c i) = dmaSource c i b := by
  have range := dmaReg_range c i
  have step := dmaRun_toReg_regAt hA hb (show 0x2000 ≤ dmaReg c i by omega)
  exact last_of_steps (P := fun j => dmaReg c j = dmaReg c i) (F := fun m => (b.dmaRun c m).regAt (dmaReg c i)) step hi rfl last

theorem dmaRun_toReg_audio_last {n i : Nat} (hi : i < n) (last : ∀ j < n, i < j → dmaReg c j ≠ dmaReg c i)
    (h1 : 0x2140 ≤ dmaReg c i) (h2 : dmaReg c i ≤ 0x2143) : ((b.dmaRun c n).readReg (dmaReg c i)).1 = dmaSource c i b :=
  last_of_steps (P := fun j => dmaReg c j = dmaReg c i) (F := fun m => ((b.dmaRun c m).readReg (dmaReg c i)).1)
    (dmaRun_toReg_audio hA h1 h2) hi rfl last

/-- A register outside the B bus. -/
theorem dmaRun_toReg_outside (hb : b.MemOk) {r : Nat} (h1 : 0x2200 ≤ r) (n : Nat) : (b.dmaRun c n).regAt r = b.regAt r := by
  refine unwritten_of_steps (P := fun i => dmaReg c i = r) (F := fun m => (b.dmaRun c m).regAt r)
    (dmaRun_toReg_regAt hA hb (by omega)) fun i _ h => ?_
  have range := dmaReg_range c i
  omega

theorem dmaRun_toReg_oam (b : Bus) (n : Nat) : (b.dmaRun c n).ppu.oam = b.ppu.oam := by
  induction n with
  | zero => rfl
  | succ n ih =>
    obtain ⟨w, w', h⟩ := dmaRun_toReg_succ hA b n
    rw [h, Bus.writePort_eq]
    exact (Ppu.writePort_frame _ _).oam.trans ih

end

/-- Of the bytes of a transfer whose addresses move, or the last one to a fixed address: no later byte has its target. -/
theorem dmaAddr_target_ne {c : Channel} {b : Bus} {n i : Nat} (hn : n ≤ 65536) (fixed : c.fixed = true → i + 1 = n)
    (ram : b.holdsRam (b.target (dmaAddr c i)) = true) (j : Nat) (hj : j < n) (hij : i < j) :
    b.target (dmaAddr c j) ≠ b.target (dmaAddr c i) := by
  intro heq
  rw [dmaAddr_eq] at heq ram
  have same := target_inj_of_holdsRam ram heq
  unfold Channel.offset at same
  cases hf : c.fixed with
  | true =>
    have := fixed hf
    omega
  | false =>
    simp only [hf, Bool.false_eq_true, ↓reduceIte, BitVec.add_right_inj] at same
    have := congrArg BitVec.toNat same
    simp only [BitVec.toNat_ofNat] at this
    omega

section
variable {c : Channel} (hA : c.toA = true) {b : Bus} (hb : b.MemOk)
include hA hb

/-- The transfer changes no store but the RAM. -/
theorem dmaRun_fromReg_store (n : Nat) : (b.dmaRun c n).regs = b.regs ∧ (b.dmaRun c n).dmaBytes = b.dmaBytes ∧
    (b.dmaRun c n).ppu = (dmaReads c n b).ppu ∧
    (b.dmaRun c n).ppu.vram = b.ppu.vram ∧ (b.dmaRun c n).ppu.cgram = b.ppu.cgram ∧ (b.dmaRun c n).ppu.oam = b.ppu.oam := by
  have store := dmaReads_sameStore c n b
  rw [dmaRun_fromReg hA hb n]
  exact ⟨store.regs, store.dmaBytes, rfl, store.vram, store.cgram, store.oam⟩

/-- A byte of RAM holds the last byte that goes there: so reads any bus with the RAM the transfer leaves. -/
theorem dmaRun_fromReg_last {n i : Nat} (hi : i < n) (ram : b.holdsRam (b.target (dmaAddr c i)) = true)
    (last : ∀ j < n, i < j → b.target (dmaAddr c j) ≠ b.target (dmaAddr c i)) {t : Bus} (wram : t.wram = (b.dmaRun c n).wram)
    (sram : t.sram = (b.dmaRun c n).sram) (cart : t.cart = b.cart) :
    (t.rd8 (dmaAddr c i)).1 = ((dmaReads c i b).readReg (dmaReg c i)).1 := by
  cases ht : b.target (dmaAddr c i) with
  | wram k =>
    rw [Bus.rd8_of_wram ((target_of_cart cart _).trans ht), wram]
    exact last_of_steps (P := fun j => b.target (dmaAddr c j) = .wram k) (F := fun m => Cells.read (b.dmaRun c m).wram k)
      (fun m => (dmaRun_fromReg_ram hA hb m).1 k) hi ht (ht ▸ last)
  | sram k =>
    have hk : k < b.saveRamSize := by simpa [ht, Bus.holdsRam] using ram
    have size : t.saveRamSize = b.saveRamSize := by simp only [Bus.saveRamSize, cart]
    rw [Bus.rd8_of_sram ((target_of_cart cart _).trans ht) (size.symm ▸ hk), sram]
    exact last_of_steps (P := fun j => b.target (dmaAddr c j) = .sram k ∧ k < b.saveRamSize)
      (F := fun m => Cells.read (b.dmaRun c m).sram k) (fun m => (dmaRun_fromReg_ram hA hb m).2 k) hi ⟨ht, hk⟩
      fun j hj hij h => last j hj hij (h.1.trans ht.symm)
  | rom | reg | unmapped => simp [ht, Bus.holdsRam] at ram

/-- A byte of RAM that is no byte's target stays. -/
theorem dmaRun_fromReg_untouched (n k : Nat) :
    ((∀ i < n, b.target (dmaAddr c i) ≠ .wram k) → Cells.read (b.dmaRun c n).wram k = Cells.read b.wram k) ∧
    ((∀ i < n, b.target (dmaAddr c i) ≠ .sram k) → Cells.read (b.dmaRun c n).sram k = Cells.read b.sram k) :=
  ⟨unwritten_of_steps (P := fun i => b.target (dmaAddr c i) = .wram k) (F := fun m => Cells.read (b.dmaRun c m).wram k)
    fun m => (dmaRun_fromReg_ram hA hb m).1 k,
  fun h => unwritten_of_steps (P := fun i => b.target (dmaAddr c i) = .sram k ∧ k < b.saveRamSize)
    (F := fun m => Cells.read (b.dmaRun c m).sram k) (fun m => (dmaRun_fromReg_ram hA hb m).2 k) fun i hi ht => h i hi ht.1⟩

end

theorem Channel.count_le (c : Channel) : c.count ≤ 65536 := by
  have := c.size.isLt
  unfold Channel.count
  split <;> omega

/-! ### The store that starts DMA -/

/-- A transfer never reaches 0x420B. -/
theorem dmaTransfer_start (lay : Layout) (ch : Nat) {b : Bus} (hb : b.MemOk) :
    (b.dmaTransfer lay ch).regAt 0x420B = b.regAt 0x420B := by
  rw [dmaTransfer_regAt_below lay hb (by decide) (by decide)]
  generalize b.dmaChannel lay ch = c
  cases hA : c.toA with
  | false => exact dmaRun_toReg_outside hA hb (by decide) _
  | true =>
    obtain ⟨regs, -⟩ := dmaRun_fromReg_store hA hb c.count
    exact congrArg (fun m => Cells.read m _) regs

/-- Channel by channel: the bits of the channels started are clear, the others as written. -/
theorem dmaStart_bit (lay : Layout) (v : Byte) {b : Bus} (hb : b.MemOk) (hv : b.regAt 0x420B = v) {n : Nat} (hn : n ≤ 8) :
    ((List.range n).foldl (Bus.dmaChannelStart lay v) b).MemOk ∧
    ∀ k < 8, (((List.range n).foldl (Bus.dmaChannelStart lay v) b).regAt 0x420B).getLsbD k = (v.getLsbD k && decide (n ≤ k)) := by
  induction n with
  | zero => exact ⟨hb, fun k _ => by simp [hv]⟩
  | succ n ih =>
    obtain ⟨ok, bits⟩ := ih (by omega)
    rw [List.range_succ, List.foldl_append, List.foldl_cons, List.foldl_nil]
    generalize (List.range n).foldl (Bus.dmaChannelStart lay v) b = u at ok bits ⊢
    unfold Bus.dmaChannelStart
    by_cases started : v.getLsbD n
    · have moved := memOk_stable.dmaTransfer ok lay (show n < 8 by omega)
      simp only [if_pos started]
      refine ⟨memOk_stable.setReg _ _ _ (by decide) moved, fun k hk => ?_⟩
      rw [Bus.regAt_setReg moved.regs.1 (by decide) (by decide), if_pos rfl, dmaTransfer_start lay n ok, BitVec.getLsbD_and, bits k hk,
        BitVec.getLsbD_not, BitVec.getLsbD_ofNat, Nat.testBit_two_pow]
      by_cases hkn : k = n
      · simp [hkn]
      · have : n ≤ k ↔ n + 1 ≤ k := by omega
        simp [this, hk, Ne.symm hkn]
    · rw [if_neg started]
      refine ⟨ok, fun k hk => ?_⟩
      rw [bits k hk]
      by_cases hkn : k = n
      · simp [hkn, started]
      · have : n ≤ k ↔ n + 1 ≤ k := by omega
        simp [this]

theorem dmaStart_clear (lay : Layout) (v : Byte) {b : Bus} (hb : b.MemOk) (hv : b.regAt 0x420B = v) :
    (b.dmaStart lay v).regAt 0x420B = 0 := by
  obtain ⟨-, bits⟩ := dmaStart_bit lay v hb hv (Nat.le_refl 8)
  refine BitVec.eq_of_getLsbD_eq fun k hk => ?_
  rw [Bus.dmaStart, bits k hk, decide_eq_false (by omega), Bool.and_false]
  simp

/-- Settles O55: byte after byte the transfer is a row of writes (`Bus.dmaRun`), of which the last to each place stands
(`last_of_steps`); the channel's registers after it (`dmaTransfer_channel`), and the start register (`dmaStart_clear`). -/
theorem dmaTransfers : Obligations.DmaTransfers := by
  intro b lay hb
  refine ⟨fun ch _ => ?transfer, fun a v ht => ?start⟩
  case start =>
    have ok := memOk_stable.writePort 0x420B v b (by decide) hb
    have written : (b.writePort 0x420B v).regAt 0x420B = v := by
      rw [Bus.writePort_eq]
      exact (Cells.read_write hb.regs.1).trans (if_pos rfl)
    have wr8 : b.wr8 lay a v = (b.writePort 0x420B v).dmaStart lay v := by
      simp only [Bus.wr8, Bus.writeTarget, ht, Bus.writeReg, ↓reduceIte]
    rw [wr8]
    exact dmaStart_clear lay v ok written
  case transfer =>
    intro c t base aReg sizeReg n
    have size : sizeReg = channelBase ch + (channelOffsets lay).size := by cases lay <;> rfl
    have aOff : aReg = channelBase ch + (channelOffsets lay).aOff := by cases lay <;> rfl
    obtain ⟨size0, size1, offset⟩ := dmaTransfer_channel lay (ch := ch) hb
    obtain ⟨wram, sram, cart, ppu, bytes⟩ := dmaTransfer_store lay (ch := ch) b
    have audio {r : Nat} (h1 : 0x2140 ≤ r) (h2 : r ≤ 0x2143) := dmaTransfer_audio lay (ch := ch) h1 h2 b
    have reg {r : Nat} := dmaTransfer_regAt_below lay (ch := ch) hb (r := r)
    have cart := cart.trans (dmaRun_cart c b c.count)
    rw [size, aOff]
    cases hA : c.toA with
    | false =>
      obtain ⟨wramKept, sramKept, bytesKept⟩ := dmaRun_toReg_keeps hA b c.count
      refine ⟨size0, size1, offset, bytes.trans (congrArg (· + c.count) bytesKept), cart,
        (congrArg Ppu.oam ppu).trans (dmaRun_toReg_oam hA b _), fun _ => ⟨fun i hi last => ?_, ppu.trans (dmaRun_toReg_ppu hA b _),
          wram.trans wramKept, sram.trans sramKept⟩, nofun⟩
      have range := dmaReg_range c i
      exact ⟨(reg (by omega) (by omega)).trans (dmaRun_toReg_last hA hb hi last),
        fun h1 h2 => (audio h1 h2).trans (dmaRun_toReg_audio_last hA hi last h1 h2)⟩
    | true =>
      obtain ⟨-, bytesKept, ppuRead, vram, cgram, oam⟩ := dmaRun_fromReg_store hA hb c.count
      refine ⟨size0, size1, offset, bytes.trans (congrArg (· + c.count) bytesKept), cart, (congrArg Ppu.oam ppu).trans oam, nofun,
        fun _ => ⟨fun i hi fixed ram => ?_, ppu.trans ppuRead, (congrArg Ppu.vram ppu).trans vram, (congrArg Ppu.cgram ppu).trans cgram,
          fun k h => ?_, fun k h => ?_⟩⟩
      · exact dmaRun_fromReg_last hA hb hi ram (dmaAddr_target_ne c.count_le fixed ram) wram sram cart
      · exact (congrArg (Cells.read · k) wram).trans ((dmaRun_fromReg_untouched hA hb _ k).1 h)
      · exact (congrArg (Cells.read · k) sram).trans ((dmaRun_fromReg_untouched hA hb _ k).2 h)

end Sys2Proof.Machine
